-- ==== Sys2Proof/Word.lean ====
section
/-! DEFINITION. The words of the codec core: a byte, a bus identifier, and the frame record that crosses the
Transport interface (00_scope.md R8, R11; 10_state.md R24). -/

namespace Sys2Proof

/-- A byte, bit 7 the most significant (00_scope.md R8, 20_memory.md R42). -/
abbrev Byte := BitVec 8

/-- A bus identifier, 32 bits, caller-supplied per call (10_state.md R24). -/
abbrev Ident := BitVec 32

/-- The eight data lanes of a frame, `data[0]` to `data[7]` (00_scope.md R11), under the names of the port binding
(10_state.md R26, R27). -/
structure Lanes where
  d0 : Byte
  d1 : Byte
  d2 : Byte
  d3 : Byte
  d4 : Byte
  d5 : Byte
  d6 : Byte
  d7 : Byte
deriving DecidableEq, Repr

/-- A frame, the unit the Transport moves: `id`, a length 0 to 8, eight data bytes of which only the first `len` are
meaningful (00_scope.md R11, 47_transport_drain.md R240). A length above 8 is outside the type (10_state.md R27,
92_eei_decisions.md D20). -/
structure Frame where
  id : Ident
  len : Fin 9
  data : Lanes
deriving DecidableEq, Repr

end Sys2Proof
end

