-- ==== Sys2Proof/Machine/Checksum.lean ====
section
/-! DEFINITION. The Checksum Unit (40_checksum.md): the one arithmetic operation of `CORE`, on unbounded naturals as
R96 asks. -/

namespace Sys2Proof.Machine

/-- `sum(s)`: the integer sum of the bytes read as unsigned numbers (00_scope.md R9). -/
def byteSum : List Byte → Nat
  | [] => 0
  | b :: bs => b.toNat + byteSum bs

/-- `cksum(id, P) = (id + P[0] + ... + P[n-1]) mod 256`, the addition of naturals, reduced once at the end
(40_checksum.md R90). -/
def cksum (id : Ident) (P : List Byte) : Byte := BitVec.ofNat 8 ((id.toNat + byteSum P) % 256)

end Sys2Proof.Machine
end

