-- ==== Sys2Proof/Config.lean ====
section
/-! DEFINITION. What is fixed for a run (the OPEN parameters of 00_scope.md R7) and the free values: the answers of
the Transport that no list of State gives. -/

namespace Sys2Proof

/-- `ANGLE_ERR_BYTES`, the byte width of the tick field of response code `0x39`: 4 or 6 (46_resp_layouts.md R206,
92_eei_decisions.md D15). -/
inductive AngleWidth where
  | four
  | six
deriving DecidableEq, Repr

/-- The OPEN parameters, constants of a run and not registers of `CORE` (00_scope.md R7, 10_state.md R25). -/
structure Config where
  /-- `ANGLE_ERR_BYTES` (R7, R206) -/
  angleErrBytes : AngleWidth
  /-- `SEND_TIMEOUT_MS`, passed unchanged to `send` (R7, R245) -/
  sendTimeoutMs : Nat
  /-- `RECV_TIMEOUT_MS`, passed unchanged to `receive` (R7, R245) -/
  recvTimeoutMs : Nat
deriving DecidableEq, Repr

/-- DESIGN CHOICE (entry 2), safe: what the `n`-th Transport call answers when it is an `open` and no listed answer
is left. Free: the Transport is an oracle under no law (47_transport_drain.md R241, R242). -/
opaque Config.freeOpen : Nat → Bool

/-- DESIGN CHOICE (entry 2), safe: what the `n`-th Transport call answers when it is a `send` and no listed answer is
left. Free (47_transport_drain.md R241). -/
opaque Config.freeSend : Nat → Bool

/-- DESIGN CHOICE (entry 2), safe: what the `n`-th Transport call delivers when it is a `receive` and no listed
answer is left: a frame, or none for `false`. Free (47_transport_drain.md R241). -/
opaque Config.freeReceive : Nat → Option Frame

end Sys2Proof
end

