-- ==== Sys2Proof/Machine/Catalog.lean ====
section
/-! DEFINITION. The static tables of the decoder (10_state.md R28): the recognised codes, the minimum lengths, and the
name lists of the enumerated statuses. They are constants fixed at design time. -/

namespace Sys2Proof.Machine

/-- The 35 recognised response codes in ascending order (30_encoding.md R85). -/
def responseCodes : List Byte :=
  [0x30, 0x31, 0x32, 0x33, 0x34, 0x35, 0x39, 0x3A, 0x3E, 0x3F, 0x41, 0x80] ++
  [0x82, 0x83, 0x84, 0x85, 0x86, 0x87, 0x88, 0x89, 0x8A, 0x8B, 0x8C, 0x8D, 0x8F] ++
  [0x90, 0x91, 0x92, 0x9A, 0x9B, 0xF5, 0xF6, 0xF7, 0xFD, 0xFE]

/-- The names of the name lists (45_resp_decoder.md R176). Identifiers of the spec, not strings of a device. -/
inductive StatusWord where
  | fail
  | success
  | disabled
  | enabled
  | notProtected
  /-- `Protected` -/
  | isProtected
  | started
  | calibrating
  | stopComplete
  | complete
  | endLimitStop
deriving DecidableEq, Repr

/-- `NL_ACK` (R176) -/
def nlAck : List StatusWord := [.fail, .success]

/-- `NL_EN` (R176) -/
def nlEn : List StatusWord := [.disabled, .enabled]

/-- `NL_PROT` (R176) -/
def nlProt : List StatusWord := [.notProtected, .isProtected]

/-- `NL_HOME` (R176) -/
def nlHome : List StatusWord := [.fail, .started, .success]

/-- `NL_CAL` (R176) -/
def nlCal : List StatusWord := [.calibrating, .success, .fail]

/-- `NL_RUN` (R176) -/
def nlRun : List StatusWord := [.fail, .started, .stopComplete]

/-- `NL_MOVE` (R176) -/
def nlMove : List StatusWord := [.fail, .started, .complete, .endLimitStop]

/-- `ANGLE_ERR_BYTES` as a number (46_resp_layouts.md R206). -/
def angleBytes : AngleWidth → Nat
  | .four => 4
  | .six => 6

/-- `MINLEN` of a layout with that many field bytes: the code, the fields, and the checksum lane, which is counted
though never read (45_resp_decoder.md R173). -/
def minLen (fieldBytes : Nat) : Nat := 1 + fieldBytes + 1

end Sys2Proof.Machine
end

