-- ==== Sys2Proof/Syntax.lean ====
section
/-! DEFINITION. The instructions: one constructor per row of spec/opcode_table.json (30_encoding.md R86), the ports a
transaction enters by (10_state.md R26, R27), and the calls of the host (47_transport_drain.md R248). -/

namespace Sys2Proof

/-- The rows of the opcode table. A command carries the bus identifier first and then its operands, in the order of
its rule and of the textual syntax (30_encoding.md R82), at the widths of its rule; a signed 24-bit operand is its
two's-complement pattern (R68). A response row is selected by lane 0 of a received frame (45_resp_decoder.md R172) and
reads its fields from the receive buffer, so it carries no operand; the fallback carries the code it was selected by. -/
inductive Instr where
  -- status reads (41_cmd_status_reads.md R100)
  /-- `RD_ENC_CARRY id`, code `0x30`, format `T2`, index 0 (R101). -/
  | rdEncCarry (id : Ident)
  /-- `RD_ENC_ADD id`, code `0x31`, format `T2`, index 1 (R102). -/
  | rdEncAdd (id : Ident)
  /-- `RD_SPEED id`, code `0x32`, format `T2`, index 2 (R103). -/
  | rdSpeed (id : Ident)
  /-- `RD_PULSES id`, code `0x33`, format `T2`, index 3 (R104). -/
  | rdPulses (id : Ident)
  /-- `RD_IO id`, code `0x34`, format `T2`, index 4 (R105). -/
  | rdIo (id : Ident)
  /-- `RD_ENC_RAW id`, code `0x35`, format `T2`, index 5 (R106). -/
  | rdEncRaw (id : Ident)
  /-- `RD_ANGLE_ERR id`, code `0x39`, format `T2`, index 6 (R107). -/
  | rdAngleErr (id : Ident)
  /-- `RD_EN id`, code `0x3A`, format `T2`, index 7 (R108). -/
  | rdEn (id : Ident)
  /-- `RD_PROTECT id`, code `0x3E`, format `T2`, index 8 (R109). -/
  | rdProtect (id : Ident)
  -- system configuration (42_cmd_system_config.md R120)
  /-- `SET_MODE id, mode`, code `0x82`, format `T3B`, index 9 (R121). -/
  | setMode (id : Ident) (mode : Byte)
  /-- `SET_CURRENT id, ma`, code `0x83`, format `T4H`, index 10 (R122). -/
  | setCurrent (id : Ident) (ma : BitVec 16)
  /-- `SET_MICROSTEP id, mstep`, code `0x84`, format `T3B`, index 11 (R123). -/
  | setMicrostep (id : Ident) (mstep : Byte)
  /-- `SET_EN_ACTIVE id, pol`, code `0x85`, format `T3B`, index 12 (R124). -/
  | setEnActive (id : Ident) (pol : Byte)
  /-- `SET_DIR id, dir`, code `0x86`, format `T3B`, index 13 (R125). -/
  | setDir (id : Ident) (dir : Byte)
  /-- `SET_AUTO_SLEEP id, en`, code `0x87`, format `T3B`, index 14 (R126). -/
  | setAutoSleep (id : Ident) (en : Byte)
  /-- `SET_PROTECT id, en`, code `0x88`, format `T3B`, index 15 (R127). -/
  | setProtect (id : Ident) (en : Byte)
  /-- `SET_INTERP id, en`, code `0x89`, format `T3B`, index 16 (R128). -/
  | setInterp (id : Ident) (en : Byte)
  /-- `SET_HOLD_CURRENT id, pct`, code `0x9B`, format `T3B`, index 17 (R129). -/
  | setHoldCurrent (id : Ident) (pct : Byte)
  /-- `SET_BUS_RATE id, rate`, code `0x8A`, format `T3B`, index 18 (R130). -/
  | setBusRate (id : Ident) (rate : Byte)
  /-- `SET_BUS_ADDR id, addr`, code `0x8B`, format `T4H`, index 19 (R131). -/
  | setBusAddr (id : Ident) (addr : BitVec 16)
  /-- `SET_RESPONSE id, respond, active`, code `0x8C`, format `T4BB`, index 20 (R132). -/
  | setResponse (id : Ident) (respond : Byte) (active : Byte)
  /-- `SET_GROUP_ADDR id, group`, code `0x8D`, format `T4H`, index 21 (R133). -/
  | setGroupAddr (id : Ident) (group : BitVec 16)
  /-- `SET_KEY_LOCK id, en`, code `0x8F`, format `T3B`, index 22 (R134). -/
  | setKeyLock (id : Ident) (en : Byte)
  -- homing, zero and parameter read (43_cmd_homing_param.md R140)
  /-- `SET_HOME id, trig, dir, speed, endlim, mode`, code `0x90`, format `T8HOME`, index 23 (R141). -/
  | setHome (id : Ident) (trig : Byte) (dir : Byte) (speed : BitVec 16) (endlim : Byte) (mode : Byte)
  /-- `GO_HOME id`, code `0x91`, format `T2`, index 24 (R142). -/
  | goHome (id : Ident)
  /-- `SET_ZERO id`, code `0x92`, format `T2`, index 25 (R143). -/
  | setZero (id : Ident)
  /-- `SET_ZERO_MODE id, mode, en, speed, dir`, code `0x9A`, format `T6B4`, index 26 (R144). -/
  | setZeroMode (id : Ident) (mode : Byte) (en : Byte) (speed : Byte) (dir : Byte)
  /-- `RD_PARAM id, idx`, code `0x00`, format `T3B`, index 27 (R145). -/
  | rdParam (id : Ident) (idx : Byte)
  -- motion (44_cmd_motion_maint.md R150)
  /-- `SPEED id, dir, speed, acc`, code `0xF6`, format `T5S`, index 28 (R151). -/
  | speed (id : Ident) (dir : BitVec 1) (speed : BitVec 16) (acc : Byte)
  /-- `STOP_SPEED id, acc`, code `0xF6`, format `T5S`, index 29 (R152). -/
  | stopSpeed (id : Ident) (acc : Byte)
  /-- `MOVE_REL id, dir, speed, acc, pulses`, code `0xFD`, format `T8PM`, index 30 (R153). -/
  | moveRel (id : Ident) (dir : BitVec 1) (speed : BitVec 16) (acc : Byte) (pulses : BitVec 24)
  /-- `STOP_REL id, acc`, code `0xFD`, format `T8PM`, index 31 (R154). -/
  | stopRel (id : Ident) (acc : Byte)
  /-- `MOVE_ABS id, speed, acc, pos`, code `0xFE`, format `T8SM`, index 32 (R155). -/
  | moveAbs (id : Ident) (speed : BitVec 16) (acc : Byte) (pos : BitVec 24)
  /-- `STOP_ABS id, acc`, code `0xFE`, format `T8SM`, index 33 (R156). -/
  | stopAbs (id : Ident) (acc : Byte)
  /-- `MOVE_AXIS id, speed, acc, axis`, code `0xF5`, format `T8SM`, index 34 (R157). -/
  | moveAxis (id : Ident) (speed : BitVec 16) (acc : Byte) (axis : BitVec 24)
  /-- `STOP_AXIS id, acc`, code `0xF5`, format `T8SM`, index 35 (R158). -/
  | stopAxis (id : Ident) (acc : Byte)
  -- maintenance (44_cmd_motion_maint.md R160)
  /-- `RESTORE id`, code `0x3F`, format `T2`, index 36 (R161). -/
  | restore (id : Ident)
  /-- `RESTART id`, code `0x41`, format `T2`, index 37 (R162). -/
  | restart (id : Ident)
  /-- `ESTOP id`, code `0xF7`, format `T2`, index 38 (R163). -/
  | estop (id : Ident)
  /-- `CALIBRATE id`, code `0x80`, format `T3Z`, index 39 (R164). -/
  | calibrate (id : Ident)
  -- responses (46_resp_layouts.md, 45_resp_decoder.md R178)
  /-- code `0x30`, format `X8C` (R200). -/
  | resp30
  /-- code `0x31`, format `X8` (R201). -/
  | resp31
  /-- code `0x32`, format `X4` (R202). -/
  | resp32
  /-- code `0x33`, format `X6` (R203). -/
  | resp33
  /-- code `0x34`, format `X3B` (R204). -/
  | resp34
  /-- code `0x35`, format `X8` (R205). -/
  | resp35
  /-- code `0x39`, format `XA` (R206). -/
  | resp39
  /-- code `0x3A`, format `X3`, `NL_EN` (R207). -/
  | resp3A
  /-- code `0x3E`, format `X3`, `NL_PROT` (R208). -/
  | resp3E
  /-- code `0x82`, format `X3`, `NL_ACK` (R209). -/
  | resp82
  /-- code `0x83`, format `X3`, `NL_ACK` (R210). -/
  | resp83
  /-- code `0x84`, format `X3`, `NL_ACK` (R211). -/
  | resp84
  /-- code `0x85`, format `X3`, `NL_ACK` (R212). -/
  | resp85
  /-- code `0x86`, format `X3`, `NL_ACK` (R213). -/
  | resp86
  /-- code `0x87`, format `X3`, `NL_ACK` (R214). -/
  | resp87
  /-- code `0x88`, format `X3`, `NL_ACK` (R215). -/
  | resp88
  /-- code `0x89`, format `X3`, `NL_ACK` (R216). -/
  | resp89
  /-- code `0x9B`, format `X3`, `NL_ACK` (R217). -/
  | resp9B
  /-- code `0x8A`, format `X3`, `NL_ACK` (R218). -/
  | resp8A
  /-- code `0x8B`, format `X3`, `NL_ACK` (R219). -/
  | resp8B
  /-- code `0x8C`, format `X3`, `NL_ACK` (R220). -/
  | resp8C
  /-- code `0x8D`, format `X3`, `NL_ACK` (R221). -/
  | resp8D
  /-- code `0x8F`, format `X3`, `NL_ACK` (R222). -/
  | resp8F
  /-- code `0x90`, format `X3`, `NL_ACK` (R223). -/
  | resp90
  /-- code `0x91`, format `X3`, `NL_HOME` (R224). -/
  | resp91
  /-- code `0x92`, format `X3`, `NL_ACK` (R225). -/
  | resp92
  /-- code `0x9A`, format `X3`, `NL_ACK` (R226). -/
  | resp9A
  /-- code `0xF6`, format `X3`, `NL_RUN` (R227). -/
  | respF6
  /-- code `0xFD`, format `X3`, `NL_MOVE` (R228). -/
  | respFD
  /-- code `0xFE`, format `X3`, `NL_MOVE` (R229). -/
  | respFE
  /-- code `0xF5`, format `X3`, `NL_MOVE` (R230). -/
  | respF5
  /-- code `0x3F`, format `X3`, `NL_ACK` (R231). -/
  | resp3F
  /-- code `0x41`, format `X3`, `NL_ACK` (R232). -/
  | resp41
  /-- code `0xF7`, format `X3`, `NL_ACK` (R233). -/
  | respF7
  /-- code `0x80`, format `X3`, `NL_CAL` (R234). -/
  | resp80
  /-- any unrecognised code, format `XRAW` (R178). -/
  | respOther (code : Byte)
deriving DecidableEq, Repr

/-- The input ports of an encode transaction: `enc_op[5:0]`, `enc_id[31:0]`, `enc_arg[55:0]` (10_state.md R26). -/
structure EncPorts where
  op : BitVec 6
  id : Ident
  arg : BitVec 56
deriving DecidableEq, Repr

/-- The input ports of a decode transaction: `rx_id[31:0]`, `rx_len[3:0]`, `rx_data0` to `rx_data7` (10_state.md
R27). -/
structure RxPorts where
  id : Ident
  len : BitVec 4
  data : Lanes
deriving DecidableEq, Repr

/-- The handle of a Transport, an explicit argument of every call that uses one (10_state.md R25, 47_transport_drain.md
R240). DESIGN CHOICE (entry 24), safe: the spec gives handles no type and does not say how many Transports a run holds;
here a handle is a number, and every number is the handle of a Transport of its own. -/
abbrev Handle := Nat

/-- The name of a reporting sink, an argument of `drain` (47_transport_drain.md R246, R249). DESIGN CHOICE (entry 26),
safe: the spec gives sinks no type and does not say how many a run has; here every number names a sink of its own. -/
abbrev Sink := Nat

/-- The operations a host performs, the rows of the table of 47_transport_drain.md R248, with their inputs; the two
timeouts are constants of the run (10_state.md R25). -/
inductive Call where
  /-- `T.open()` of the Transport with handle `T` (R242) -/
  | openTransport (T : Handle)
  /-- `encode`: build a frame and hand it back, without sending (R248) -/
  | encode (ports : EncPorts)
  /-- `encode_and_send`: build a frame and make one `T.send` (R243) -/
  | encodeAndSend (T : Handle) (ports : EncPorts)
  /-- `decode` one frame and hand the value back (R248) -/
  | decode (ports : RxPorts)
  /-- `drain`: `T.receive` and decode until the answer is `false`, each value reported to the sink (R246) -/
  | drain (T : Handle) (sink : Sink)
  /-- `cksum` of an identifier and bytes (R248, 40_checksum.md R90) -/
  | cksum (id : Ident) (bytes : List Byte)
deriving DecidableEq, Repr

end Sys2Proof
end

