-- ==== Sys2Proof/WellFormed.lean ====
section
/-! DEFINITION. Which terms of the syntax are meant: a fallback only for an unrecognised code, a command index that
selects a command, a received length inside the frame type. -/

namespace Sys2Proof

/-- An instruction is well formed when the fallback row is used for an unrecognised code only (45_resp_decoder.md
R178). Every operand of a command is exactly as wide as its rule says, so every command is well formed
(30_encoding.md R71: no operand is rejected). -/
def Instr.wellFormed : Instr → Bool
  | .rdEncCarry _ => true
  | .rdEncAdd _ => true
  | .rdSpeed _ => true
  | .rdPulses _ => true
  | .rdIo _ => true
  | .rdEncRaw _ => true
  | .rdAngleErr _ => true
  | .rdEn _ => true
  | .rdProtect _ => true
  | .setMode _ _ => true
  | .setCurrent _ _ => true
  | .setMicrostep _ _ => true
  | .setEnActive _ _ => true
  | .setDir _ _ => true
  | .setAutoSleep _ _ => true
  | .setProtect _ _ => true
  | .setInterp _ _ => true
  | .setHoldCurrent _ _ => true
  | .setBusRate _ _ => true
  | .setBusAddr _ _ => true
  | .setResponse _ _ _ => true
  | .setGroupAddr _ _ => true
  | .setKeyLock _ _ => true
  | .setHome _ _ _ _ _ _ => true
  | .goHome _ => true
  | .setZero _ => true
  | .setZeroMode _ _ _ _ _ => true
  | .rdParam _ _ => true
  | .speed _ _ _ _ => true
  | .stopSpeed _ _ => true
  | .moveRel _ _ _ _ _ => true
  | .stopRel _ _ => true
  | .moveAbs _ _ _ _ => true
  | .stopAbs _ _ => true
  | .moveAxis _ _ _ _ => true
  | .stopAxis _ _ => true
  | .restore _ => true
  | .restart _ => true
  | .estop _ => true
  | .calibrate _ => true
  | .resp30 => true
  | .resp31 => true
  | .resp32 => true
  | .resp33 => true
  | .resp34 => true
  | .resp35 => true
  | .resp39 => true
  | .resp3A => true
  | .resp3E => true
  | .resp82 => true
  | .resp83 => true
  | .resp84 => true
  | .resp85 => true
  | .resp86 => true
  | .resp87 => true
  | .resp88 => true
  | .resp89 => true
  | .resp9B => true
  | .resp8A => true
  | .resp8B => true
  | .resp8C => true
  | .resp8D => true
  | .resp8F => true
  | .resp90 => true
  | .resp91 => true
  | .resp92 => true
  | .resp9A => true
  | .respF6 => true
  | .respFD => true
  | .respFE => true
  | .respF5 => true
  | .resp3F => true
  | .resp41 => true
  | .respF7 => true
  | .resp80 => true
  | .respOther code => !Machine.responseCodes.contains code

/-- The index selects one of the 40 commands (10_state.md R26). -/
def EncPorts.wellFormed (p : EncPorts) : Bool := decide (p.op.toNat < 40)

/-- The length is one the frame type has (10_state.md R27). -/
def RxPorts.wellFormed (p : RxPorts) : Bool := decide (p.len.toNat ≤ 8)

end Sys2Proof
end

