-- ==== Sys2Proof/Decode.lean ====
section
/-! DEFINITION. The three decoders, and after them the encoder.
`decodeCommand` selects a command by its index on the port binding (10_state.md R26). `dispatch` selects a branch by
lane 0 of a received frame (45_resp_decoder.md R172). `parseCommandFrame` reads the data of a command frame back by the
rows of 30_encoding.md R76; `CORE` never does that (R84): it serves `decodeTableWord`, whose words are frames. -/

namespace Sys2Proof

/-- Why a decoder gives no instruction. -/
inductive Reject where
  /-- a command index 40 to 63 selects no command (10_state.md R26) -/
  | commandIndex (op : BitVec 6)
  /-- a frame of length 0 has no lane 0 to dispatch on (45_resp_decoder.md R179) -/
  | emptyFrame
  /-- more than 8 data bytes: outside the frame type (10_state.md R27) -/
  | frameTooLong
deriving DecidableEq, Repr

/-- The `w` bits of `enc_arg` from bit `at_` up: one operand (10_state.md R26). -/
def argField (arg : BitVec 56) (at_ w : Nat) : BitVec w := arg.extractLsb' at_ w

/-- The command an encode transaction is asked for: selected by `enc_op`, its operands on `enc_arg`, first operand
most significant, the whole right-aligned, bits above them ignored (10_state.md R26). -/
def decodeCommand (p : EncPorts) : Except Reject Instr :=
  match p.op.toNat with
  | 0 => .ok (.rdEncCarry p.id)
  | 1 => .ok (.rdEncAdd p.id)
  | 2 => .ok (.rdSpeed p.id)
  | 3 => .ok (.rdPulses p.id)
  | 4 => .ok (.rdIo p.id)
  | 5 => .ok (.rdEncRaw p.id)
  | 6 => .ok (.rdAngleErr p.id)
  | 7 => .ok (.rdEn p.id)
  | 8 => .ok (.rdProtect p.id)
  | 9 => .ok (.setMode p.id (argField p.arg 0 8))
  | 10 => .ok (.setCurrent p.id (argField p.arg 0 16))
  | 11 => .ok (.setMicrostep p.id (argField p.arg 0 8))
  | 12 => .ok (.setEnActive p.id (argField p.arg 0 8))
  | 13 => .ok (.setDir p.id (argField p.arg 0 8))
  | 14 => .ok (.setAutoSleep p.id (argField p.arg 0 8))
  | 15 => .ok (.setProtect p.id (argField p.arg 0 8))
  | 16 => .ok (.setInterp p.id (argField p.arg 0 8))
  | 17 => .ok (.setHoldCurrent p.id (argField p.arg 0 8))
  | 18 => .ok (.setBusRate p.id (argField p.arg 0 8))
  | 19 => .ok (.setBusAddr p.id (argField p.arg 0 16))
  | 20 => .ok (.setResponse p.id (argField p.arg 8 8) (argField p.arg 0 8))
  | 21 => .ok (.setGroupAddr p.id (argField p.arg 0 16))
  | 22 => .ok (.setKeyLock p.id (argField p.arg 0 8))
  | 23 => .ok (.setHome p.id (argField p.arg 40 8) (argField p.arg 32 8) (argField p.arg 16 16) (argField p.arg 8 8) (argField p.arg 0 8))
  | 24 => .ok (.goHome p.id)
  | 25 => .ok (.setZero p.id)
  | 26 => .ok (.setZeroMode p.id (argField p.arg 24 8) (argField p.arg 16 8) (argField p.arg 8 8) (argField p.arg 0 8))
  | 27 => .ok (.rdParam p.id (argField p.arg 0 8))
  | 28 => .ok (.speed p.id (argField p.arg 24 1) (argField p.arg 8 16) (argField p.arg 0 8))
  | 29 => .ok (.stopSpeed p.id (argField p.arg 0 8))
  | 30 => .ok (.moveRel p.id (argField p.arg 48 1) (argField p.arg 32 16) (argField p.arg 24 8) (argField p.arg 0 24))
  | 31 => .ok (.stopRel p.id (argField p.arg 0 8))
  | 32 => .ok (.moveAbs p.id (argField p.arg 32 16) (argField p.arg 24 8) (argField p.arg 0 24))
  | 33 => .ok (.stopAbs p.id (argField p.arg 0 8))
  | 34 => .ok (.moveAxis p.id (argField p.arg 32 16) (argField p.arg 24 8) (argField p.arg 0 24))
  | 35 => .ok (.stopAxis p.id (argField p.arg 0 8))
  | 36 => .ok (.restore p.id)
  | 37 => .ok (.restart p.id)
  | 38 => .ok (.estop p.id)
  | 39 => .ok (.calibrate p.id)
  | _ => .error (.commandIndex p.op)

/-- The recognised response codes, each with its branch (45_resp_decoder.md R172, 30_encoding.md R77). -/
def recognised (code : Byte) : Option Instr :=
  match code.toNat with
  | 0x30 => some .resp30
  | 0x31 => some .resp31
  | 0x32 => some .resp32
  | 0x33 => some .resp33
  | 0x34 => some .resp34
  | 0x35 => some .resp35
  | 0x39 => some .resp39
  | 0x3A => some .resp3A
  | 0x3E => some .resp3E
  | 0x82 => some .resp82
  | 0x83 => some .resp83
  | 0x84 => some .resp84
  | 0x85 => some .resp85
  | 0x86 => some .resp86
  | 0x87 => some .resp87
  | 0x88 => some .resp88
  | 0x89 => some .resp89
  | 0x9B => some .resp9B
  | 0x8A => some .resp8A
  | 0x8B => some .resp8B
  | 0x8C => some .resp8C
  | 0x8D => some .resp8D
  | 0x8F => some .resp8F
  | 0x90 => some .resp90
  | 0x91 => some .resp91
  | 0x92 => some .resp92
  | 0x9A => some .resp9A
  | 0xF6 => some .respF6
  | 0xFD => some .respFD
  | 0xFE => some .respFE
  | 0xF5 => some .respF5
  | 0x3F => some .resp3F
  | 0x41 => some .resp41
  | 0xF7 => some .respF7
  | 0x80 => some .resp80
  | _ => none

/-- The dispatch: the branch of a recognised code, the fallback for any other (45_resp_decoder.md R172, R178). The match
is on the 8 bits of lane 0 and on nothing else. -/
def dispatch (code : Byte) : Instr := (recognised code).getD (.respOther code)

/-- DESIGN CHOICE (entry 12), unsafe: the identifier a command frame's checksum lane gives away, its low byte; the
upper 24 bits do not enter the frame data (40_checksum.md R91) and are read as zero. -/
def identOf (P : List Byte) (c : Byte) : Ident := (c - BitVec.ofNat 8 (Machine.byteSum P)).setWidth 32

/-- The rows of formats `T2` (30_encoding.md R64, R76). -/
def parseT2 (k c : Byte) : Option Instr :=
  match k.toNat with
  | 0x30 => some (.rdEncCarry (identOf [k] c))
  | 0x31 => some (.rdEncAdd (identOf [k] c))
  | 0x32 => some (.rdSpeed (identOf [k] c))
  | 0x33 => some (.rdPulses (identOf [k] c))
  | 0x34 => some (.rdIo (identOf [k] c))
  | 0x35 => some (.rdEncRaw (identOf [k] c))
  | 0x39 => some (.rdAngleErr (identOf [k] c))
  | 0x3A => some (.rdEn (identOf [k] c))
  | 0x3E => some (.rdProtect (identOf [k] c))
  | 0x91 => some (.goHome (identOf [k] c))
  | 0x92 => some (.setZero (identOf [k] c))
  | 0x3F => some (.restore (identOf [k] c))
  | 0x41 => some (.restart (identOf [k] c))
  | 0xF7 => some (.estop (identOf [k] c))
  | _ => none

/-- The rows of formats `T3B` and `T3Z` (30_encoding.md R64, R76). -/
def parseT3 (k a c : Byte) : Option Instr :=
  match k.toNat with
  | 0x82 => some (.setMode (identOf [k, a] c) a)
  | 0x84 => some (.setMicrostep (identOf [k, a] c) a)
  | 0x85 => some (.setEnActive (identOf [k, a] c) a)
  | 0x86 => some (.setDir (identOf [k, a] c) a)
  | 0x87 => some (.setAutoSleep (identOf [k, a] c) a)
  | 0x88 => some (.setProtect (identOf [k, a] c) a)
  | 0x89 => some (.setInterp (identOf [k, a] c) a)
  | 0x9B => some (.setHoldCurrent (identOf [k, a] c) a)
  | 0x8A => some (.setBusRate (identOf [k, a] c) a)
  | 0x8F => some (.setKeyLock (identOf [k, a] c) a)
  | 0x00 => some (.rdParam (identOf [k, a] c) a)
  | 0x80 => if a = 0 then some (.calibrate (identOf [k, a] c)) else none
  | _ => none

/-- The rows of formats `T4H` and `T4BB` (30_encoding.md R64, R76). -/
def parseT4 (k a b c : Byte) : Option Instr :=
  match k.toNat with
  | 0x83 => some (.setCurrent (identOf [k, a, b] c) (a ++ b))
  | 0x8B => some (.setBusAddr (identOf [k, a, b] c) (a ++ b))
  | 0x8D => some (.setGroupAddr (identOf [k, a, b] c) (a ++ b))
  | 0x8C => some (.setResponse (identOf [k, a, b] c) a b)
  | _ => none

/-- The operands of a packed direction-and-speed pair: none when one of bits 6 to 4 is set, which no row produces
(30_encoding.md R69, R86). -/
def unpack (p l : Byte) : Option (BitVec 1 × BitVec 16) :=
  if p &&& 0x70 = 0 then some (p.extractLsb' 7 1, (0#4 ++ p.extractLsb' 0 4 : Byte) ++ l) else none

/-- The rows of format `T5S`; a frame both rows produce is read as the stop, whose row fixes more bits (entry 11). -/
def parseT5 (k a b d c : Byte) : Option Instr :=
  match k.toNat with
  | 0xF6 =>
    if a = 0 ∧ b = 0 then some (.stopSpeed (identOf [k, a, b, d] c) d)
    else (unpack a b).map fun ds => .speed (identOf [k, a, b, d] c) ds.1 ds.2 d
  | _ => none

/-- The row of format `T6B4` (30_encoding.md R64, R76). -/
def parseT6 (k a b d e c : Byte) : Option Instr :=
  match k.toNat with
  | 0x9A => some (.setZeroMode (identOf [k, a, b, d, e] c) a b d e)
  | _ => none

/-- The rows of formats `T8HOME`, `T8PM` and `T8SM`; a frame that a stop produces is read as the stop (entry 11). -/
def parseT8 (k a b d e f g c : Byte) : Option Instr :=
  let id := identOf [k, a, b, d, e, f, g] c
  let halted := decide (a = 0 ∧ b = 0 ∧ e = 0 ∧ f = 0 ∧ g = 0)
  match k.toNat with
  | 0x90 => some (.setHome id a b (d ++ e) f g)
  | 0xFD => if halted then some (.stopRel id d) else (unpack a b).map fun ds => .moveRel id ds.1 ds.2 d (e ++ f ++ g)
  | 0xFE => some (if halted then .stopAbs id d else .moveAbs id (a ++ b) d (e ++ f ++ g))
  | 0xF5 => some (if halted then .stopAxis id d else .moveAxis id (a ++ b) d (e ++ f ++ g))
  | _ => none

/-- The command whose frame data these bytes are, by the rows of 30_encoding.md R76. -/
def parseCommandFrame : List Byte → Option Instr
  | [k, c] => parseT2 k c
  | [k, a, c] => parseT3 k a c
  | [k, a, b, c] => parseT4 k a b c
  | [k, a, b, d, c] => parseT5 k a b d c
  | [k, a, b, d, e, c] => parseT6 k a b d e c
  | [k, a, b, d, e, f, g, c] => parseT8 k a b d e f g c
  | _ => none

/-- The row a word of the opcode table belongs to: a command row when the bytes are one of its frames, else the
response row of lane 0. DESIGN CHOICE (entry 11), unsafe: eleven codes have a command row and a response row with
the same three-byte words, which no table word tells apart; the command row is taken. -/
def decodeFrame (bytes : List Byte) : Except Reject Instr :=
  match bytes with
  | [] => .error .emptyFrame
  | k :: _ =>
    if bytes.length > 8 then .error .frameTooLong
    else
      match parseCommandFrame bytes with
      | some i => .ok i
      | none => .ok (dispatch k)

/-- The bytes of a table word: lane 0 is the most significant byte, as the table's `fixed` and `fields` number it
(98_reader.md). -/
def laneBytes (nbits w : Nat) : List Byte :=
  (List.range (nbits / 8)).map fun k => BitVec.ofNat 8 (w >>> (8 * (nbits / 8 - 1 - k)))

/-- The instruction read from a table word. -/
def decodeTableWord (nbits w : Nat) : Option Instr := (decodeFrame (laneBytes nbits w)).toOption

/-! The encoder. -/

/-- `P ++ [cksum(id, P)]`, the frame data of a raw payload (40_checksum.md R92). -/
def sealFrame (id : Ident) (P : List Byte) : List Byte := P ++ [Machine.cksum id P]

/-- The byte of `x` from bit `at_` up. -/
def byteAt {n : Nat} (x : BitVec n) (at_ : Nat) : Byte := x.extractLsb' at_ 8

/-- The words of an instruction: the frame data of a command, lane by lane as the table of 30_encoding.md R76 has it,
with the packed lane of R69 as bit 7, three zero bits and four bits of speed; the selecting lane 0 of a response row. -/
def encode : Instr → List Byte
  | .rdEncCarry id => sealFrame id [0x30]
  | .rdEncAdd id => sealFrame id [0x31]
  | .rdSpeed id => sealFrame id [0x32]
  | .rdPulses id => sealFrame id [0x33]
  | .rdIo id => sealFrame id [0x34]
  | .rdEncRaw id => sealFrame id [0x35]
  | .rdAngleErr id => sealFrame id [0x39]
  | .rdEn id => sealFrame id [0x3A]
  | .rdProtect id => sealFrame id [0x3E]
  | .setMode id mode => sealFrame id [0x82, mode]
  | .setCurrent id ma => sealFrame id [0x83, byteAt ma 8, byteAt ma 0]
  | .setMicrostep id mstep => sealFrame id [0x84, mstep]
  | .setEnActive id pol => sealFrame id [0x85, pol]
  | .setDir id dir => sealFrame id [0x86, dir]
  | .setAutoSleep id en => sealFrame id [0x87, en]
  | .setProtect id en => sealFrame id [0x88, en]
  | .setInterp id en => sealFrame id [0x89, en]
  | .setHoldCurrent id pct => sealFrame id [0x9B, pct]
  | .setBusRate id rate => sealFrame id [0x8A, rate]
  | .setBusAddr id addr => sealFrame id [0x8B, byteAt addr 8, byteAt addr 0]
  | .setResponse id respond active => sealFrame id [0x8C, respond, active]
  | .setGroupAddr id group => sealFrame id [0x8D, byteAt group 8, byteAt group 0]
  | .setKeyLock id en => sealFrame id [0x8F, en]
  | .setHome id trig dir speed endlim mode => sealFrame id [0x90, trig, dir, byteAt speed 8, byteAt speed 0, endlim, mode]
  | .goHome id => sealFrame id [0x91]
  | .setZero id => sealFrame id [0x92]
  | .setZeroMode id mode en speed dir => sealFrame id [0x9A, mode, en, speed, dir]
  | .rdParam id idx => sealFrame id [0x00, idx]
  | .speed id dir speed acc => sealFrame id [0xF6, dir ++ 0#3 ++ speed.extractLsb' 8 4, byteAt speed 0, acc]
  | .stopSpeed id acc => sealFrame id [0xF6, 0x00, 0x00, acc]
  | .moveRel id dir speed acc pulses => sealFrame id [0xFD, dir ++ 0#3 ++ speed.extractLsb' 8 4, byteAt speed 0, acc, byteAt pulses 16, byteAt pulses 8, byteAt pulses 0]
  | .stopRel id acc => sealFrame id [0xFD, 0x00, 0x00, acc, 0x00, 0x00, 0x00]
  | .moveAbs id speed acc pos => sealFrame id [0xFE, byteAt speed 8, byteAt speed 0, acc, byteAt pos 16, byteAt pos 8, byteAt pos 0]
  | .stopAbs id acc => sealFrame id [0xFE, 0x00, 0x00, acc, 0x00, 0x00, 0x00]
  | .moveAxis id speed acc axis => sealFrame id [0xF5, byteAt speed 8, byteAt speed 0, acc, byteAt axis 16, byteAt axis 8, byteAt axis 0]
  | .stopAxis id acc => sealFrame id [0xF5, 0x00, 0x00, acc, 0x00, 0x00, 0x00]
  | .restore id => sealFrame id [0x3F]
  | .restart id => sealFrame id [0x41]
  | .estop id => sealFrame id [0xF7]
  | .calibrate id => sealFrame id [0x80, 0x00]
  | .resp30 => [0x30]
  | .resp31 => [0x31]
  | .resp32 => [0x32]
  | .resp33 => [0x33]
  | .resp34 => [0x34]
  | .resp35 => [0x35]
  | .resp39 => [0x39]
  | .resp3A => [0x3A]
  | .resp3E => [0x3E]
  | .resp82 => [0x82]
  | .resp83 => [0x83]
  | .resp84 => [0x84]
  | .resp85 => [0x85]
  | .resp86 => [0x86]
  | .resp87 => [0x87]
  | .resp88 => [0x88]
  | .resp89 => [0x89]
  | .resp9B => [0x9B]
  | .resp8A => [0x8A]
  | .resp8B => [0x8B]
  | .resp8C => [0x8C]
  | .resp8D => [0x8D]
  | .resp8F => [0x8F]
  | .resp90 => [0x90]
  | .resp91 => [0x91]
  | .resp92 => [0x92]
  | .resp9A => [0x9A]
  | .respF6 => [0xF6]
  | .respFD => [0xFD]
  | .respFE => [0xFE]
  | .respF5 => [0xF5]
  | .resp3F => [0x3F]
  | .resp41 => [0x41]
  | .respF7 => [0xF7]
  | .resp80 => [0x80]
  | .respOther code => [code]

/-- The port values that ask for a command: its index and its operands (10_state.md R26); none for a response row. -/
def encodePorts : Instr → Option EncPorts
  | .rdEncCarry id => some ⟨0, id, 0⟩
  | .rdEncAdd id => some ⟨1, id, 0⟩
  | .rdSpeed id => some ⟨2, id, 0⟩
  | .rdPulses id => some ⟨3, id, 0⟩
  | .rdIo id => some ⟨4, id, 0⟩
  | .rdEncRaw id => some ⟨5, id, 0⟩
  | .rdAngleErr id => some ⟨6, id, 0⟩
  | .rdEn id => some ⟨7, id, 0⟩
  | .rdProtect id => some ⟨8, id, 0⟩
  | .setMode id mode => some ⟨9, id, mode.setWidth 56⟩
  | .setCurrent id ma => some ⟨10, id, ma.setWidth 56⟩
  | .setMicrostep id mstep => some ⟨11, id, mstep.setWidth 56⟩
  | .setEnActive id pol => some ⟨12, id, pol.setWidth 56⟩
  | .setDir id dir => some ⟨13, id, dir.setWidth 56⟩
  | .setAutoSleep id en => some ⟨14, id, en.setWidth 56⟩
  | .setProtect id en => some ⟨15, id, en.setWidth 56⟩
  | .setInterp id en => some ⟨16, id, en.setWidth 56⟩
  | .setHoldCurrent id pct => some ⟨17, id, pct.setWidth 56⟩
  | .setBusRate id rate => some ⟨18, id, rate.setWidth 56⟩
  | .setBusAddr id addr => some ⟨19, id, addr.setWidth 56⟩
  | .setResponse id respond active => some ⟨20, id, (respond ++ active).setWidth 56⟩
  | .setGroupAddr id group => some ⟨21, id, group.setWidth 56⟩
  | .setKeyLock id en => some ⟨22, id, en.setWidth 56⟩
  | .setHome id trig dir speed endlim mode => some ⟨23, id, (trig ++ dir ++ speed ++ endlim ++ mode).setWidth 56⟩
  | .goHome id => some ⟨24, id, 0⟩
  | .setZero id => some ⟨25, id, 0⟩
  | .setZeroMode id mode en speed dir => some ⟨26, id, (mode ++ en ++ speed ++ dir).setWidth 56⟩
  | .rdParam id idx => some ⟨27, id, idx.setWidth 56⟩
  | .speed id dir speed acc => some ⟨28, id, (dir ++ speed ++ acc).setWidth 56⟩
  | .stopSpeed id acc => some ⟨29, id, acc.setWidth 56⟩
  | .moveRel id dir speed acc pulses => some ⟨30, id, (dir ++ speed ++ acc ++ pulses).setWidth 56⟩
  | .stopRel id acc => some ⟨31, id, acc.setWidth 56⟩
  | .moveAbs id speed acc pos => some ⟨32, id, (speed ++ acc ++ pos).setWidth 56⟩
  | .stopAbs id acc => some ⟨33, id, acc.setWidth 56⟩
  | .moveAxis id speed acc axis => some ⟨34, id, (speed ++ acc ++ axis).setWidth 56⟩
  | .stopAxis id acc => some ⟨35, id, acc.setWidth 56⟩
  | .restore id => some ⟨36, id, 0⟩
  | .restart id => some ⟨37, id, 0⟩
  | .estop id => some ⟨38, id, 0⟩
  | .calibrate id => some ⟨39, id, 0⟩
  | .resp30 => none
  | .resp31 => none
  | .resp32 => none
  | .resp33 => none
  | .resp34 => none
  | .resp35 => none
  | .resp39 => none
  | .resp3A => none
  | .resp3E => none
  | .resp82 => none
  | .resp83 => none
  | .resp84 => none
  | .resp85 => none
  | .resp86 => none
  | .resp87 => none
  | .resp88 => none
  | .resp89 => none
  | .resp9B => none
  | .resp8A => none
  | .resp8B => none
  | .resp8C => none
  | .resp8D => none
  | .resp8F => none
  | .resp90 => none
  | .resp91 => none
  | .resp92 => none
  | .resp9A => none
  | .respF6 => none
  | .respFD => none
  | .respFE => none
  | .respF5 => none
  | .resp3F => none
  | .resp41 => none
  | .respF7 => none
  | .resp80 => none
  | .respOther _ => none

/-- `match` and `mask` of an instruction's row in opcode_table.json, lane by lane (30_encoding.md R86): a frame of the
row satisfies `frame AND mask = match`. A response row has them for lane 0 only, and the fallback none. -/
def rowPattern : Instr → List Byte × List Byte
  | .rdEncCarry _ => ([0x30, 0x00], [0xFF, 0x00])
  | .rdEncAdd _ => ([0x31, 0x00], [0xFF, 0x00])
  | .rdSpeed _ => ([0x32, 0x00], [0xFF, 0x00])
  | .rdPulses _ => ([0x33, 0x00], [0xFF, 0x00])
  | .rdIo _ => ([0x34, 0x00], [0xFF, 0x00])
  | .rdEncRaw _ => ([0x35, 0x00], [0xFF, 0x00])
  | .rdAngleErr _ => ([0x39, 0x00], [0xFF, 0x00])
  | .rdEn _ => ([0x3A, 0x00], [0xFF, 0x00])
  | .rdProtect _ => ([0x3E, 0x00], [0xFF, 0x00])
  | .setMode _ _ => ([0x82, 0x00, 0x00], [0xFF, 0x00, 0x00])
  | .setCurrent _ _ => ([0x83, 0x00, 0x00, 0x00], [0xFF, 0x00, 0x00, 0x00])
  | .setMicrostep _ _ => ([0x84, 0x00, 0x00], [0xFF, 0x00, 0x00])
  | .setEnActive _ _ => ([0x85, 0x00, 0x00], [0xFF, 0x00, 0x00])
  | .setDir _ _ => ([0x86, 0x00, 0x00], [0xFF, 0x00, 0x00])
  | .setAutoSleep _ _ => ([0x87, 0x00, 0x00], [0xFF, 0x00, 0x00])
  | .setProtect _ _ => ([0x88, 0x00, 0x00], [0xFF, 0x00, 0x00])
  | .setInterp _ _ => ([0x89, 0x00, 0x00], [0xFF, 0x00, 0x00])
  | .setHoldCurrent _ _ => ([0x9B, 0x00, 0x00], [0xFF, 0x00, 0x00])
  | .setBusRate _ _ => ([0x8A, 0x00, 0x00], [0xFF, 0x00, 0x00])
  | .setBusAddr _ _ => ([0x8B, 0x00, 0x00, 0x00], [0xFF, 0x00, 0x00, 0x00])
  | .setResponse _ _ _ => ([0x8C, 0x00, 0x00, 0x00], [0xFF, 0x00, 0x00, 0x00])
  | .setGroupAddr _ _ => ([0x8D, 0x00, 0x00, 0x00], [0xFF, 0x00, 0x00, 0x00])
  | .setKeyLock _ _ => ([0x8F, 0x00, 0x00], [0xFF, 0x00, 0x00])
  | .setHome _ _ _ _ _ _ => ([0x90, 0x00, 0x00, 0x00, 0x00, 0x00, 0x00, 0x00], [0xFF, 0x00, 0x00, 0x00, 0x00, 0x00, 0x00, 0x00])
  | .goHome _ => ([0x91, 0x00], [0xFF, 0x00])
  | .setZero _ => ([0x92, 0x00], [0xFF, 0x00])
  | .setZeroMode _ _ _ _ _ => ([0x9A, 0x00, 0x00, 0x00, 0x00, 0x00], [0xFF, 0x00, 0x00, 0x00, 0x00, 0x00])
  | .rdParam _ _ => ([0x00, 0x00, 0x00], [0xFF, 0x00, 0x00])
  | .speed _ _ _ _ => ([0xF6, 0x00, 0x00, 0x00, 0x00], [0xFF, 0x70, 0x00, 0x00, 0x00])
  | .stopSpeed _ _ => ([0xF6, 0x00, 0x00, 0x00, 0x00], [0xFF, 0xFF, 0xFF, 0x00, 0x00])
  | .moveRel _ _ _ _ _ => ([0xFD, 0x00, 0x00, 0x00, 0x00, 0x00, 0x00, 0x00], [0xFF, 0x70, 0x00, 0x00, 0x00, 0x00, 0x00, 0x00])
  | .stopRel _ _ => ([0xFD, 0x00, 0x00, 0x00, 0x00, 0x00, 0x00, 0x00], [0xFF, 0xFF, 0xFF, 0x00, 0xFF, 0xFF, 0xFF, 0x00])
  | .moveAbs _ _ _ _ => ([0xFE, 0x00, 0x00, 0x00, 0x00, 0x00, 0x00, 0x00], [0xFF, 0x00, 0x00, 0x00, 0x00, 0x00, 0x00, 0x00])
  | .stopAbs _ _ => ([0xFE, 0x00, 0x00, 0x00, 0x00, 0x00, 0x00, 0x00], [0xFF, 0xFF, 0xFF, 0x00, 0xFF, 0xFF, 0xFF, 0x00])
  | .moveAxis _ _ _ _ => ([0xF5, 0x00, 0x00, 0x00, 0x00, 0x00, 0x00, 0x00], [0xFF, 0x00, 0x00, 0x00, 0x00, 0x00, 0x00, 0x00])
  | .stopAxis _ _ => ([0xF5, 0x00, 0x00, 0x00, 0x00, 0x00, 0x00, 0x00], [0xFF, 0xFF, 0xFF, 0x00, 0xFF, 0xFF, 0xFF, 0x00])
  | .restore _ => ([0x3F, 0x00], [0xFF, 0x00])
  | .restart _ => ([0x41, 0x00], [0xFF, 0x00])
  | .estop _ => ([0xF7, 0x00], [0xFF, 0x00])
  | .calibrate _ => ([0x80, 0x00, 0x00], [0xFF, 0xFF, 0x00])
  | .resp30 => ([0x30], [0xFF])
  | .resp31 => ([0x31], [0xFF])
  | .resp32 => ([0x32], [0xFF])
  | .resp33 => ([0x33], [0xFF])
  | .resp34 => ([0x34], [0xFF])
  | .resp35 => ([0x35], [0xFF])
  | .resp39 => ([0x39], [0xFF])
  | .resp3A => ([0x3A], [0xFF])
  | .resp3E => ([0x3E], [0xFF])
  | .resp82 => ([0x82], [0xFF])
  | .resp83 => ([0x83], [0xFF])
  | .resp84 => ([0x84], [0xFF])
  | .resp85 => ([0x85], [0xFF])
  | .resp86 => ([0x86], [0xFF])
  | .resp87 => ([0x87], [0xFF])
  | .resp88 => ([0x88], [0xFF])
  | .resp89 => ([0x89], [0xFF])
  | .resp9B => ([0x9B], [0xFF])
  | .resp8A => ([0x8A], [0xFF])
  | .resp8B => ([0x8B], [0xFF])
  | .resp8C => ([0x8C], [0xFF])
  | .resp8D => ([0x8D], [0xFF])
  | .resp8F => ([0x8F], [0xFF])
  | .resp90 => ([0x90], [0xFF])
  | .resp91 => ([0x91], [0xFF])
  | .resp92 => ([0x92], [0xFF])
  | .resp9A => ([0x9A], [0xFF])
  | .respF6 => ([0xF6], [0xFF])
  | .respFD => ([0xFD], [0xFF])
  | .respFE => ([0xFE], [0xFF])
  | .respF5 => ([0xF5], [0xFF])
  | .resp3F => ([0x3F], [0xFF])
  | .resp41 => ([0x41], [0xFF])
  | .respF7 => ([0xF7], [0xFF])
  | .resp80 => ([0x80], [0xFF])
  | .respOther _ => ([], [])

end Sys2Proof
end

