-- ==== Sys2Proof/Machine/State.lean ====
section
/-! DEFINITION. The state: the transient objects of one transaction, the configuration of a run, the Transports, the
caller and the sinks (10_state.md). `CORE` itself has no persistent state (R20): it has no register, no program counter,
no flag, no mode, no interrupt and no trap register (R21 to R25, R32; 60_exceptions.md R265, R267, R269). -/

namespace Sys2Proof.Machine

/-- The lanes of one of the two address spaces TX and RX (20_memory.md R40), as (lane, byte) pairs in one canonical
form: lanes strictly rising, none above 7, and no entry equal to `unlistedByte`. -/
abbrev Memory := List Host.Cell

/-- What a lane that is not listed reads as: `0x00`. For TX this is the zero fill of 00_scope.md R11; for RX a lane at
`len` or above is never read (DESIGN CHOICE, entry 8, safe). -/
def unlistedByte : Byte := 0

/-- The canonical form, of entries at lane `from_` or above. -/
def Memory.wfFrom : Nat → Memory → Bool
  | _, [] => true
  | from_, (k, b) :: rest => decide (from_ ≤ k) && decide (k < 8) && decide (b ≠ unlistedByte) && wfFrom (k + 1) rest

/-- The canonical form of a memory. -/
def Memory.wf (m : Memory) : Bool := Memory.wfFrom 0 m

/-- A frame buffer, TX or RX: the identifier, the length 0 to 8 and the lanes (20_memory.md R40). -/
structure Buffer where
  id : Ident
  len : Fin 9
  mem : Memory
deriving DecidableEq, Repr

/-- No frame: between transactions a buffer does not exist (10_state.md R29, 20_memory.md R40). -/
def Buffer.none : Buffer := ⟨0, 0, []⟩

/-- The widths of the signed fields (45_resp_decoder.md R171). -/
inductive SignedWidth where
  | w16
  | w32
  | w48
deriving DecidableEq, Repr

/-- The name of a status: an entry of a name list, or `Unknown`, a value of its own (45_resp_decoder.md R176). -/
inductive StatusName where
  | named (n : StatusWord)
  | unknown
deriving DecidableEq, Repr

/-- The result type of the decoder (45_resp_decoder.md R171). A signed value is the integer it denotes; the degrees are
the numerator over the constant denominator 1280 (R175). -/
inductive ParsedResponse where
  /-- nothing parsed, nothing to report -/
  | skipped
  /-- the catch-all: all bytes received -/
  | rawDump (bytes : List Byte)
  /-- code `0x30` only: `carry : i32`, `value : u16` -/
  | encCarry (code : Byte) (carry : Int) (value : BitVec 16)
  /-- a signed value of 16, 32 or 48 bits -/
  | signed (code : Byte) (width : SignedWidth) (value : Int)
  /-- code `0x39` only: the ticks and the numerator of the degrees over 1280 -/
  | angleErr (code : Byte) (ticks : Int) (degNum : Int)
  /-- code `0x34` only -/
  | statusByte (code : Byte) (byte : Byte)
  /-- an enumerated status: the raw index, and its name or `Unknown` -/
  | status (code : Byte) (index : Byte) (name : StatusName)
deriving DecidableEq, Repr

/-- A Transport, as far as a caller can tell: the only owner of mutable state around `CORE` (10_state.md R30). -/
structure Transport where
  /-- the connection: whether `open` answered true (47_transport_drain.md R242) -/
  opened : Bool
  /-- the oracle's next answers to `open` (R241); an answer past the end is free -/
  openAnswers : List Bool
  /-- the oracle's next answers to `send` (R241); an answer past the end is free -/
  sendAnswers : List Bool
  /-- the oracle's next answers to `receive`, the backlog (R30, R241); an answer past the end is free -/
  deliveries : List (Option Frame)
deriving DecidableEq, Repr

/-- A Transport nothing has been done with: not opened, no answer listed (DESIGN CHOICE, entry 3, unsafe). -/
def Transport.fresh : Transport := ⟨false, [], [], []⟩

/-- The Transports of a run by their handles. A handle that is not listed is that of a Transport nothing has been done
with. -/
abbrev Transports := List (Handle × Transport)

/-- The form every update keeps: handles strictly rising, from `from_` up. -/
def Transports.wfFrom : Nat → Transports → Bool
  | _, [] => true
  | from_, (T, _) :: rest => decide (from_ ≤ T) && wfFrom (T + 1) rest

/-- The Transports are listed with strictly rising handles. -/
def Transports.wf (l : Transports) : Bool := Transports.wfFrom 0 l

/-- A frame handed to `send`: through which Transport, and with which `timeoutMs` (47_transport_drain.md R240, R243,
R245). -/
structure Sent where
  handle : Handle
  frame : Frame
  timeoutMs : Nat
deriving DecidableEq, Repr

/-- A `receive` made: of which Transport, and with which `timeoutMs` (47_transport_drain.md R240, R245, R246). -/
structure Polled where
  handle : Handle
  timeoutMs : Nat
deriving DecidableEq, Repr

/-- A value reported, and the sink it was reported to (47_transport_drain.md R246, R249). -/
structure Report where
  sink : Sink
  value : ParsedResponse
deriving DecidableEq, Repr

/-- What an operation of the host returned: the result column of the table of 47_transport_drain.md R248. -/
inductive Returned where
  /-- `open` -/
  | openResult (ok : Bool)
  /-- `encode` -/
  | frame (f : Frame)
  /-- `encode_and_send` -/
  | sendResult (ok : Bool)
  /-- `decode` -/
  | parsed (r : ParsedResponse)
  /-- `drain` returned; it has no value of its own (R246) -/
  | drained
  /-- `cksum` -/
  | checksum (c : Byte)
deriving DecidableEq, Repr

/-- Why a step may stop with a fault: a use of a memory primitive that 00_scope.md R11 leaves undefined. No instruction
reaches one (45_resp_decoder.md R183, 30_encoding.md R61). -/
inductive Fault where
  /-- `MemWrite(addr, n, v)` with `addr + n > 8`: raised by the lane store of Ops; a raw payload of 8 bytes would do it
  (70_reset_and_hazards.md R300). Safe: the spec gives it no meaning. -/
  | txLaneOutOfRange
  /-- `MemRead(addr, n)` with `addr + n > RX.len`: raised by the field read of Ops. Safe: the spec gives it no meaning. -/
  | rxLaneOutOfRange
deriving DecidableEq, Repr

/-- Why a step may answer nothing: an input that the spec says a model refuses. -/
inductive Refusal where
  /-- an instruction that has no meaning yet; raised by `exec` only. Safe. -/
  | notModelled (mnemonic : String)
  /-- `enc_op` 40 to 63 selects no command (10_state.md R26, 93_implementation_defined.md U10); raised by `step`. Safe. -/
  | noSuchCommand (op : BitVec 6)
  /-- `rx_len` 9 to 15: outside the frame type (10_state.md R27, U9); raised by `step`. Safe. -/
  | frameTooLong (len : BitVec 4)
  /-- `send` or `receive` on a Transport that `open` has not opened: no meaning (47_transport_drain.md R242, U7); raised
  by every command and by `drain`, for the handle they were passed. Safe. -/
  | transportNotOpen
deriving DecidableEq, Repr

/-- The state of the system around `CORE` (INVENTORY.md, State). -/
structure State where
  /-- TX, the frame being built; no frame between transactions (20_memory.md R40, 10_state.md R29) -/
  tx : Buffer
  /-- RX, the frame being decoded; no frame between transactions (20_memory.md R40, 10_state.md R29) -/
  rx : Buffer
  /-- the value of the decode transaction under way; `skipped` between transactions (10_state.md R27, R29) -/
  pr : ParsedResponse
  /-- the argument `T` of the `encode_and_send` under way (10_state.md R25, 47_transport_drain.md R243): an input of the
  transaction like its operands, no handle kept by `CORE`; 0 between transactions (entries 3, 24) -/
  handle : Handle
  /-- the constants of the run (00_scope.md R7, 10_state.md R25) -/
  cfg : Config
  /-- the Transports, by handle (10_state.md R30) -/
  transports : Transports
  /-- the MODEL's own: how many Transport calls were made, the index of the free answers (entry 2) -/
  oracleIndex : Nat
  /-- the caller's invocations still to be performed, next first (R248) -/
  calls : List Call
  /-- the frames handed to `send`, in order (R243) -/
  sent : List Sent
  /-- every `receive` made, in order (R245, R246) -/
  polled : List Polled
  /-- what the operations returned, in order (R248) -/
  returned : List Returned
  /-- what the sinks received, in order (R246, R249) -/
  reports : List Report
deriving DecidableEq, Repr

/-- The configuration at reset: `ANGLE_ERR_BYTES` at the default 00_scope.md R7 gives; the timeouts, which the spec
leaves OPEN, at 0 (DESIGN CHOICE, entry 5, unsafe). -/
def resetConfig : Config := ⟨.four, 0, 0⟩

/-- Right after reset (10_state.md R31, 70_reset_and_hazards.md R290): no frame pending, nothing to initialise in
`CORE`. The state around it, which the spec leaves unspecified: no Transport opened, no answer listed, no call, nothing
sent, returned or reported yet (DESIGN CHOICE, entry 3, unsafe). -/
def State.reset : State where
  tx := Buffer.none
  rx := Buffer.none
  pr := .skipped
  handle := 0
  cfg := resetConfig
  transports := []
  oracleIndex := 0
  calls := []
  sent := []
  polled := []
  returned := []
  reports := []

end Sys2Proof.Machine
end

