-- ==== Sys2Proof/Machine/Flags.lean ====
section
/-! DEFINITION. `CORE` has no flags (10_state.md R23). What stands here are its two comparisons (40_checksum.md R98 f,
g), the check predicate that is defined but not used by `CORE` (R95), and the taxonomy of abnormal outcomes
(60_exceptions.md R260). -/

namespace Sys2Proof.Machine

/-- The length test of a branch, `RX.len >= MINLEN[code]`, `MINLEN` for a layout of that many field bytes
(45_resp_decoder.md R173). -/
def longEnough (rx : Buffer) (fieldBytes : Nat) : Bool := decide (minLen fieldBytes ≤ rx.len.val)

/-- The lookup of a status index in a name list: the bound is tested before the list is touched (45_resp_decoder.md
R176). -/
def statusName (names : List StatusWord) (index : Byte) : StatusName :=
  match names[index.toNat]? with
  | some n => .named n
  | none => .unknown

/-- The four abnormal outcomes (60_exceptions.md R260), each an ordinary value of its transaction. -/
inductive Abnormal where
  /-- `E_A`: transport failure (R261) -/
  | eA
  /-- `E_B`: short or empty frame (R262) -/
  | eB
  /-- `E_C`: unrecognised code (R263) -/
  | eC
  /-- `E_D`: status out of range (R264) -/
  | eD
deriving DecidableEq, Repr

/-- Which abnormal outcome of a decode a value shows (60_exceptions.md R262 to R264). -/
def abnormalParse : ParsedResponse → Option Abnormal
  | .skipped => some .eB
  | .rawDump _ => some .eC
  | .status _ _ .unknown => some .eD
  | .status _ _ (.named _) => none
  | .encCarry _ _ _ => none
  | .signed _ _ _ => none
  | .angleErr _ _ _ => none
  | .statusByte _ _ => none

/-- Which abnormal outcome a returned value shows; the end of a drain stands for a `receive` that answered false
(60_exceptions.md R261). -/
def abnormalReturn : Returned → Option Abnormal
  | .sendResult ok => if ok then none else some .eA
  | .drained => some .eA
  | .parsed r => abnormalParse r
  | .openResult _ => none
  | .frame _ => none
  | .checksum _ => none

end Sys2Proof.Machine
end

