-- ==== Sys2Proof/Machine/Operands.lean ====
section
/-! DEFINITION. How an operand becomes bytes (30_encoding.md R66 to R69) and how bytes become a number
(00_scope.md R9, R10; 45_resp_decoder.md R174, R175). -/

namespace Sys2Proof.Machine

/-- `hi(x) = (x >> 8) & 0xFF` of a 16-bit operand (30_encoding.md R67, 40_checksum.md R98 a). -/
def hi (x : BitVec 16) : Byte := ((x >>> 8) &&& 0xFF#16).setWidth 8

/-- `lo(x) = x & 0xFF` of a 16-bit operand (R67, R69). -/
def lo (x : BitVec 16) : Byte := (x &&& 0xFF#16).setWidth 8

/-- `b2(m) = m[23:16]` of a 24-bit operand (R68). -/
def b2 (m : BitVec 24) : Byte := ((m >>> 16) &&& 0xFF#24).setWidth 8

/-- `b1(m) = m[15:8]` of a 24-bit operand (R68). -/
def b1 (m : BitVec 24) : Byte := ((m >>> 8) &&& 0xFF#24).setWidth 8

/-- `b0(m) = m[7:0]` of a 24-bit operand (R68). -/
def b0 (m : BitVec 24) : Byte := (m &&& 0xFF#24).setWidth 8

/-- `pk(d, s) = (d << 7) | ((s >> 8) & 0x0F)`: the direction flag in bit 7 over the upper four bits of the 12-bit
truncated speed; `s[15:12]` are discarded (R69). -/
def pk (d : BitVec 1) (s : BitVec 16) : Byte :=
  (d.setWidth 8 <<< 7) ||| ((s >>> 8) &&& 0x0F#16).setWidth 8

/-- `be_n(v)`: the `n` bytes of `v`, most significant first (00_scope.md R9). -/
def be (n v : Nat) : List Byte :=
  (List.range n).map fun k => BitVec.ofNat 8 ((v >>> (8 * (n - 1 - k))) &&& 0xFF)

/-- `ube` of a byte sequence: the unsigned number assembled big-endian (00_scope.md R9, 20_memory.md R41). -/
def ube (s : List Byte) : Nat := s.foldl (fun acc b => acc * 256 + b.toNat) 0

/-- `sext_W(u)`: the integer a `W`-bit pattern denotes, by testing its top bit (00_scope.md R10, 45_resp_decoder.md
R174). -/
def sext (W u : Nat) : Int := if u.testBit (W - 1) then (u : Int) - 2 ^ W else u

/-- The same extension on the 64-bit delivery width: test the field's top bit and, if it is set, OR in all higher
bits (00_scope.md R10, 45_resp_decoder.md R174). -/
def sext64 (W u : Nat) : BitVec 64 :=
  if u.testBit (W - 1) then BitVec.ofNat 64 u ||| BitVec.ofNat 64 (2 ^ 64 - 2 ^ W) else BitVec.ofNat 64 u

/-- The numerator of the angle in degrees over the constant denominator 1280: `ticks * 9` (45_resp_decoder.md R175,
`pr_deg_num` of 10_state.md R27). -/
def degNum (ticks : Int) : Int := ticks * 9

/-- The constant denominator `DEG_DEN` (00_scope.md R7). -/
def degDen : Nat := 1280

end Sys2Proof.Machine
end

