-- ==== Sys2Proof/Machine/Ops.lean ====
section
/-! DEFINITION. The named operations: lanes and frames, the memory primitives `MemRead` and `MemWrite` (00_scope.md
R11), the append rule (40_checksum.md R92), the Transport's answers (47_transport_drain.md R241), encode-and-send
(R243), and the branch of each response format (30_encoding.md R72). There is no exception entry and no return
(60_exceptions.md R267, R268). -/

namespace Sys2Proof.Machine

/-! Lanes and frames. -/

/-- The byte at lane `k` of a memory. -/
def readLane : Memory → Nat → Byte
  | [], _ => unlistedByte
  | (j, b) :: rest, k => if j = k then b else readLane rest k

/-- Lane `k` of a memory set to `b`, in canonical form. -/
def setLane : Memory → Nat → Byte → Memory
  | [], k, b => if b = unlistedByte then [] else [(k, b)]
  | (j, c) :: rest, k, b =>
    if k < j then (if b = unlistedByte then (j, c) :: rest else (k, b) :: (j, c) :: rest)
    else if k = j then (if b = unlistedByte then rest else (k, b) :: rest)
    else (j, c) :: setLane rest k b

/-- The `n` bytes from lane `k` up. -/
def readLanes (m : Memory) (k n : Nat) : List Byte := (List.range n).map fun j => readLane m (k + j)

/-- The eight data bytes of a frame, lane 0 first. -/
def laneList (d : Lanes) : List Byte := [d.d0, d.d1, d.d2, d.d3, d.d4, d.d5, d.d6, d.d7]

/-- `bytes(F)`: the meaningful data bytes (00_scope.md R11). -/
def frameBytes (f : Frame) : List Byte := (laneList f.data).take f.len.val

/-- `Frame(id, s)` for at most 8 bytes: `len = |s|`, the lanes above it `0x00` (00_scope.md R11). DESIGN CHOICE (entry 27),
safe: for more than 8 bytes `Frame(id, s)` is undefined (R11, 70_reset_and_hazards.md R300, U1); this total function
gives them the length `|s| mod 9` and their first 8 bytes, and no step forms such a frame. -/
def frameOf (id : Ident) (s : List Byte) : Frame :=
  ⟨id, Fin.ofNat 9 s.length,
    ⟨s.getD 0 0, s.getD 1 0, s.getD 2 0, s.getD 3 0, s.getD 4 0, s.getD 5 0, s.getD 6 0, s.getD 7 0⟩⟩

/-- `cksum_ok(f)`, for a frame of at least two bytes: the last byte is the checksum of the bytes before it. Defined for
the reader and not used by `CORE` (40_checksum.md R95). DESIGN CHOICE (entry 25), unsafe: R95 gives no value for a frame
of fewer than two bytes; the model answers `false` there. -/
def cksumOk (f : Frame) : Bool :=
  decide (2 ≤ f.len.val) &&
    decide ((frameBytes f).getLast? = some (cksum f.id ((frameBytes f).take (f.len.val - 1))))

/-- Bytes stored in consecutive lanes from `k` up, without a bound. -/
def setLanes : Memory → Nat → List Byte → Memory
  | m, _, [] => m
  | m, k, b :: bs => setLanes (setLane m k b) (k + 1) bs

/-- A received frame as the receive buffer: all eight lanes, whatever those at `len` and above hold (20_memory.md
R40). -/
def bufferOf (f : Frame) : Buffer := ⟨f.id, f.len, setLanes [] 0 (laneList f.data)⟩

/-- The frame a transmit buffer holds. -/
def frameIn (b : Buffer) : Frame :=
  ⟨b.id, b.len,
    ⟨readLane b.mem 0, readLane b.mem 1, readLane b.mem 2, readLane b.mem 3,
     readLane b.mem 4, readLane b.mem 5, readLane b.mem 6, readLane b.mem 7⟩⟩

/-! The memory primitives. -/

/-- `MemWrite(addr, n, v)` for the bytes of `v`: defined only with `addr + n <= 8` (00_scope.md R11). -/
def memWrite (m : Memory) (addr : Nat) (bytes : List Byte) : Except Fault Memory :=
  if addr + bytes.length ≤ 8 then .ok (setLanes m addr bytes) else .error .txLaneOutOfRange

/-- `MemRead(addr, n)`: the number the `n` bytes of RX from lane `addr` make, defined only with `addr + n <= RX.len`
(00_scope.md R11). -/
def memRead (rx : Buffer) (addr n : Nat) : Except Fault Nat :=
  if addr + n ≤ rx.len.val then .ok (ube (readLanes rx.mem addr n)) else .error .rxLaneOutOfRange

/-! The Transports. -/

/-- The Transport of a handle in a list of Transports. -/
def transportAt : Transports → Handle → Transport
  | [], _ => Transport.fresh
  | (U, x) :: rest, T => if U = T then x else transportAt rest T

/-- The Transport of a handle changed to `x`, every other one as it was. -/
def setTransport : Transports → Handle → Transport → Transports
  | [], T, x => [(T, x)]
  | (U, y) :: rest, T, x =>
    if T < U then (T, x) :: (U, y) :: rest
    else if T = U then (T, x) :: rest
    else (U, y) :: setTransport rest T x

/-- The Transport of a handle (10_state.md R25, R30). -/
def transportOf (s : State) (T : Handle) : Transport := transportAt s.transports T

/-- Whether the Transport is open whose handle the `encode_and_send` under way was passed (47_transport_drain.md R242,
R243). -/
def State.opened (s : State) : Bool := (transportOf s s.handle).opened

/-! The encoder's common end, and the Transport's answers. -/

/-- The append rule: a fresh TX gets the raw payload in lanes 0 to `|P| - 1`; the checksum of those lanes, read back,
goes to lane `|P|`; the length is `|P| + 1` (40_checksum.md R92, 30_encoding.md R70). -/
def formFrame (id : Ident) (P : List Byte) : Except Fault Buffer :=
  match memWrite [] 0 P with
  | .error f => .error f
  | .ok m =>
    match memWrite m P.length [cksum id (readLanes m 0 P.length)] with
    | .error f => .error f
    | .ok m' => .ok ⟨id, Fin.ofNat 9 (P.length + 1), m'⟩

/-- What the next `T.send` answers, `T` the handle the operation was passed: the next listed answer, or a free one
(47_transport_drain.md R241, R243). -/
def sendAnswer (s : State) : Bool := (transportOf s s.handle).sendAnswers.headD (Config.freeSend s.oracleIndex)

/-- What the next `T.open` answers: the next listed answer, or a free one (47_transport_drain.md R241, R242). -/
def openAnswer (T : Handle) (s : State) : Bool := (transportOf s T).openAnswers.headD (Config.freeOpen s.oracleIndex)

/-- What the next `T.receive` answers: none for `false`, else the frame delivered; the next listed answer, or a free one
(47_transport_drain.md R240, R241). -/
def receiveAnswer (T : Handle) (s : State) : Option Frame :=
  (transportOf s T).deliveries.headD (Config.freeReceive s.oracleIndex)

/-- A Transport after it has answered a `send`. -/
def afterSendAnswer (x : Transport) : Transport := { x with sendAnswers := x.sendAnswers.tail }

/-- A Transport after it has answered an `open` (47_transport_drain.md R242). -/
def afterOpenAnswer (ok : Bool) (x : Transport) : Transport :=
  { x with opened := ok, openAnswers := x.openAnswers.tail }

/-- A Transport after it has answered a `receive`. -/
def afterReceiveAnswer (x : Transport) : Transport := { x with deliveries := x.deliveries.tail }

/-- One `T.send` of the frame in TX, with the send timeout, `T` the handle the operation was passed. Its boolean is the
operation's result; neither the frame nor the handle is retained (47_transport_drain.md R243, 10_state.md R25, R29). -/
def sendFrame (s : State) : State :=
  { s with
    sent := s.sent ++ [⟨s.handle, frameIn s.tx, s.cfg.sendTimeoutMs⟩]
    returned := s.returned ++ [.sendResult (sendAnswer s)]
    transports := setTransport s.transports s.handle (afterSendAnswer (transportOf s s.handle))
    oracleIndex := s.oracleIndex + 1
    tx := Buffer.none
    handle := 0 }

/-- `encode_and_send` of a raw payload: one frame, one `send`, whatever it answers (47_transport_drain.md R243). On a
Transport that is not open it has no meaning (R242). -/
def encodeAndSend (id : Ident) (P : List Byte) (s : State) : Host.Outcome State Fault Refusal :=
  if s.opened then
    match formFrame id P with
    | .error f => .fault f
    | .ok b => .next (sendFrame { s with tx := b })
  else .refused .transportNotOpen

/-! The branches of the decoder. -/

/-- The end of a decode transaction: its value stands at the output (45_resp_decoder.md R170). -/
def yieldParse (s : State) (r : ParsedResponse) : Host.Outcome State Fault Refusal := .next { s with pr := r }

/-- A branch: the length test first, and only then the reads (45_resp_decoder.md R173, R182). -/
def branch (fieldBytes : Nat) (read : Buffer → Except Fault ParsedResponse) (s : State) :
    Host.Outcome State Fault Refusal :=
  if longEnough s.rx fieldBytes then
    match read s.rx with
    | .error f => .fault f
    | .ok r => yieldParse s r
  else yieldParse s .skipped

/-- A signed field of `n` bytes at lane `addr`: assembled big-endian, then sign-extended (45_resp_decoder.md R174). -/
def readSigned (rx : Buffer) (addr n : Nat) : Except Fault Int :=
  match memRead rx addr n with
  | .error f => .error f
  | .ok u => .ok (sext (8 * n) u)

/-- An unsigned field of one byte at lane `addr` (45_resp_decoder.md R177). -/
def readByte (rx : Buffer) (addr : Nat) : Except Fault Byte :=
  match memRead rx addr 1 with
  | .error f => .error f
  | .ok u => .ok (BitVec.ofNat 8 u)

/-- The number of field bytes of a signed width (45_resp_decoder.md R174). -/
def widthBytes : SignedWidth → Nat
  | .w16 => 2
  | .w32 => 4
  | .w48 => 6

/-- Formats `X4`, `X6` and `X8`: one signed field from lane 1 (30_encoding.md R72). -/
def branchSigned (code : Byte) (w : SignedWidth) (s : State) : Host.Outcome State Fault Refusal :=
  branch (widthBytes w)
    (fun rx =>
      match readSigned rx 1 (widthBytes w) with
      | .error f => .error f
      | .ok v => .ok (.signed code w v)) s

/-- Format `X8C`: a signed 32-bit field at lanes 1 to 4, an unsigned 16-bit one at lanes 5 to 6, delivered separately
(45_resp_decoder.md R184). -/
def branchEncCarry (code : Byte) (s : State) : Host.Outcome State Fault Refusal :=
  branch 6
    (fun rx =>
      match readSigned rx 1 4 with
      | .error f => .error f
      | .ok carry =>
        match memRead rx 5 2 with
        | .error f => .error f
        | .ok value => .ok (.encCarry code carry (BitVec.ofNat 16 value))) s

/-- Format `XA`: a signed field of `ANGLE_ERR_BYTES` bytes from lane 1, in ticks and in degrees (46_resp_layouts.md
R206, 45_resp_decoder.md R175). -/
def branchAngle (code : Byte) (s : State) : Host.Outcome State Fault Refusal :=
  branch (angleBytes s.cfg.angleErrBytes)
    (fun rx =>
      match readSigned rx 1 (angleBytes s.cfg.angleErrBytes) with
      | .error f => .error f
      | .ok ticks => .ok (.angleErr code ticks (degNum ticks))) s

/-- Format `X3B`: the byte at lane 1, whole and unchanged (45_resp_decoder.md R177). -/
def branchByte (code : Byte) (s : State) : Host.Outcome State Fault Refusal :=
  branch 1
    (fun rx =>
      match readByte rx 1 with
      | .error f => .error f
      | .ok b => .ok (.statusByte code b)) s

/-- Format `X3`: the byte at lane 1 as an index into a name list (45_resp_decoder.md R176). -/
def branchStatus (code : Byte) (names : List StatusWord) (s : State) : Host.Outcome State Fault Refusal :=
  branch 1
    (fun rx =>
      match readByte rx 1 with
      | .error f => .error f
      | .ok i => .ok (.status code i (statusName names i))) s

/-- Format `XRAW`: all `len` bytes, lane 0 first; an empty frame gives `Skipped` (45_resp_decoder.md R178, R179). -/
def branchRaw (s : State) : Host.Outcome State Fault Refusal :=
  if s.rx.len.val = 0 then yieldParse s .skipped
  else yieldParse s (.rawDump (readLanes s.rx.mem 0 s.rx.len.val))

end Sys2Proof.Machine
end

