-- ==== Sys2Proof/Machine/HomingParam.lean ====
section
/-! DEFINITION. Command family 3, homing, zero and parameter read (R140).
Each command has its raw payload, the `P` of its rule in 43_cmd_homing_param.md, and its meaning: encode-and-send of that payload
(47_transport_drain.md R243). -/

namespace Sys2Proof.Machine

/-- `P` of `SET_HOME` (R141). -/
def payloadSetHome (trig : Byte) (dir : Byte) (speed : BitVec 16) (endlim : Byte) (mode : Byte) : List Byte := [0x90, trig, dir, hi speed, lo speed, endlim, mode]

/-- `SET_HOME` (R141). -/
def execSetHome (id : Ident) (trig : Byte) (dir : Byte) (speed : BitVec 16) (endlim : Byte) (mode : Byte) (s : State) :
    Host.Outcome State Fault Refusal :=
  encodeAndSend id (payloadSetHome trig dir speed endlim mode) s

/-- `P` of `GO_HOME` (R142). -/
def payloadGoHome : List Byte := [0x91]

/-- `GO_HOME` (R142). -/
def execGoHome (id : Ident) (s : State) : Host.Outcome State Fault Refusal :=
  encodeAndSend id payloadGoHome s

/-- `P` of `SET_ZERO` (R143). -/
def payloadSetZero : List Byte := [0x92]

/-- `SET_ZERO` (R143). -/
def execSetZero (id : Ident) (s : State) : Host.Outcome State Fault Refusal :=
  encodeAndSend id payloadSetZero s

/-- `P` of `SET_ZERO_MODE` (R144). -/
def payloadSetZeroMode (mode : Byte) (en : Byte) (speed : Byte) (dir : Byte) : List Byte := [0x9A, mode, en, speed, dir]

/-- `SET_ZERO_MODE` (R144). -/
def execSetZeroMode (id : Ident) (mode : Byte) (en : Byte) (speed : Byte) (dir : Byte) (s : State) :
    Host.Outcome State Fault Refusal :=
  encodeAndSend id (payloadSetZeroMode mode en speed dir) s

/-- `P` of `RD_PARAM` (R145). -/
def payloadRdParam (idx : Byte) : List Byte := [0x00, idx]

/-- `RD_PARAM` (R145). -/
def execRdParam (id : Ident) (idx : Byte) (s : State) : Host.Outcome State Fault Refusal :=
  encodeAndSend id (payloadRdParam idx) s

end Sys2Proof.Machine
end

