-- ==== Sys2Proof/Machine/Maintenance.lean ====
section
/-! DEFINITION. Command family 5, maintenance (R160).
Each command has its raw payload, the `P` of its rule in 44_cmd_motion_maint.md, and its meaning: encode-and-send of that payload
(47_transport_drain.md R243). -/

namespace Sys2Proof.Machine

/-- `P` of `RESTORE` (R161). -/
def payloadRestore : List Byte := [0x3F]

/-- `RESTORE` (R161). -/
def execRestore (id : Ident) (s : State) : Host.Outcome State Fault Refusal :=
  encodeAndSend id payloadRestore s

/-- `P` of `RESTART` (R162). -/
def payloadRestart : List Byte := [0x41]

/-- `RESTART` (R162). -/
def execRestart (id : Ident) (s : State) : Host.Outcome State Fault Refusal :=
  encodeAndSend id payloadRestart s

/-- `P` of `ESTOP` (R163). -/
def payloadEstop : List Byte := [0xF7]

/-- `ESTOP` (R163). -/
def execEstop (id : Ident) (s : State) : Host.Outcome State Fault Refusal :=
  encodeAndSend id payloadEstop s

/-- `P` of `CALIBRATE` (R164). -/
def payloadCalibrate : List Byte := [0x80, 0x00]

/-- `CALIBRATE` (R164). -/
def execCalibrate (id : Ident) (s : State) : Host.Outcome State Fault Refusal :=
  encodeAndSend id payloadCalibrate s

end Sys2Proof.Machine
end

