-- ==== Sys2Proof/Machine/Motion.lean ====
section
/-! DEFINITION. Command family 4, motion: four moves and their stop variants (R150).
Each command has its raw payload, the `P` of its rule in 44_cmd_motion_maint.md, and its meaning: encode-and-send of that payload
(47_transport_drain.md R243). -/

namespace Sys2Proof.Machine

/-- `P` of `SPEED` (R151). -/
def payloadSpeed (dir : BitVec 1) (speed : BitVec 16) (acc : Byte) : List Byte := [0xF6, pk dir speed, lo speed, acc]

/-- `SPEED` (R151). -/
def execSpeed (id : Ident) (dir : BitVec 1) (speed : BitVec 16) (acc : Byte) (s : State) :
    Host.Outcome State Fault Refusal :=
  encodeAndSend id (payloadSpeed dir speed acc) s

/-- `P` of `STOP_SPEED` (R152). -/
def payloadStopSpeed (acc : Byte) : List Byte := [0xF6, 0x00, 0x00, acc]

/-- `STOP_SPEED` (R152). -/
def execStopSpeed (id : Ident) (acc : Byte) (s : State) : Host.Outcome State Fault Refusal :=
  encodeAndSend id (payloadStopSpeed acc) s

/-- `P` of `MOVE_REL` (R153). -/
def payloadMoveRel (dir : BitVec 1) (speed : BitVec 16) (acc : Byte) (pulses : BitVec 24) : List Byte := [0xFD, pk dir speed, lo speed, acc, b2 pulses, b1 pulses, b0 pulses]

/-- `MOVE_REL` (R153). -/
def execMoveRel (id : Ident) (dir : BitVec 1) (speed : BitVec 16) (acc : Byte) (pulses : BitVec 24) (s : State) :
    Host.Outcome State Fault Refusal :=
  encodeAndSend id (payloadMoveRel dir speed acc pulses) s

/-- `P` of `STOP_REL` (R154). -/
def payloadStopRel (acc : Byte) : List Byte := [0xFD, 0x00, 0x00, acc, 0x00, 0x00, 0x00]

/-- `STOP_REL` (R154). -/
def execStopRel (id : Ident) (acc : Byte) (s : State) : Host.Outcome State Fault Refusal :=
  encodeAndSend id (payloadStopRel acc) s

/-- `P` of `MOVE_ABS` (R155). -/
def payloadMoveAbs (speed : BitVec 16) (acc : Byte) (pos : BitVec 24) : List Byte := [0xFE, hi speed, lo speed, acc, b2 pos, b1 pos, b0 pos]

/-- `MOVE_ABS` (R155). -/
def execMoveAbs (id : Ident) (speed : BitVec 16) (acc : Byte) (pos : BitVec 24) (s : State) :
    Host.Outcome State Fault Refusal :=
  encodeAndSend id (payloadMoveAbs speed acc pos) s

/-- `P` of `STOP_ABS` (R156). -/
def payloadStopAbs (acc : Byte) : List Byte := [0xFE, 0x00, 0x00, acc, 0x00, 0x00, 0x00]

/-- `STOP_ABS` (R156). -/
def execStopAbs (id : Ident) (acc : Byte) (s : State) : Host.Outcome State Fault Refusal :=
  encodeAndSend id (payloadStopAbs acc) s

/-- `P` of `MOVE_AXIS` (R157). -/
def payloadMoveAxis (speed : BitVec 16) (acc : Byte) (axis : BitVec 24) : List Byte := [0xF5, hi speed, lo speed, acc, b2 axis, b1 axis, b0 axis]

/-- `MOVE_AXIS` (R157). -/
def execMoveAxis (id : Ident) (speed : BitVec 16) (acc : Byte) (axis : BitVec 24) (s : State) :
    Host.Outcome State Fault Refusal :=
  encodeAndSend id (payloadMoveAxis speed acc axis) s

/-- `P` of `STOP_AXIS` (R158). -/
def payloadStopAxis (acc : Byte) : List Byte := [0xF5, 0x00, 0x00, acc, 0x00, 0x00, 0x00]

/-- `STOP_AXIS` (R158). -/
def execStopAxis (id : Ident) (acc : Byte) (s : State) : Host.Outcome State Fault Refusal :=
  encodeAndSend id (payloadStopAxis acc) s

end Sys2Proof.Machine
end

