-- ==== Sys2Proof/Machine/RespConfig.lean ====
section
/-! DEFINITION. Acknowledgements of configuration commands: one branch of the Response Decoder per code (46_resp_layouts.md). A branch reads the frame
in RX and leaves its value at the output. -/

namespace Sys2Proof.Machine

/-- Response code `0x82`: a status of `NL_ACK` (R209). -/
def execResp82 (s : State) : Host.Outcome State Fault Refusal := branchStatus 0x82 nlAck s

/-- Response code `0x83`: a status of `NL_ACK` (R210). -/
def execResp83 (s : State) : Host.Outcome State Fault Refusal := branchStatus 0x83 nlAck s

/-- Response code `0x84`: a status of `NL_ACK` (R211). -/
def execResp84 (s : State) : Host.Outcome State Fault Refusal := branchStatus 0x84 nlAck s

/-- Response code `0x85`: a status of `NL_ACK` (R212). -/
def execResp85 (s : State) : Host.Outcome State Fault Refusal := branchStatus 0x85 nlAck s

/-- Response code `0x86`: a status of `NL_ACK` (R213). -/
def execResp86 (s : State) : Host.Outcome State Fault Refusal := branchStatus 0x86 nlAck s

/-- Response code `0x87`: a status of `NL_ACK` (R214). -/
def execResp87 (s : State) : Host.Outcome State Fault Refusal := branchStatus 0x87 nlAck s

/-- Response code `0x88`: a status of `NL_ACK` (R215). -/
def execResp88 (s : State) : Host.Outcome State Fault Refusal := branchStatus 0x88 nlAck s

/-- Response code `0x89`: a status of `NL_ACK` (R216). -/
def execResp89 (s : State) : Host.Outcome State Fault Refusal := branchStatus 0x89 nlAck s

/-- Response code `0x9B`: a status of `NL_ACK` (R217). -/
def execResp9B (s : State) : Host.Outcome State Fault Refusal := branchStatus 0x9B nlAck s

/-- Response code `0x8A`: a status of `NL_ACK` (R218). -/
def execResp8A (s : State) : Host.Outcome State Fault Refusal := branchStatus 0x8A nlAck s

/-- Response code `0x8B`: a status of `NL_ACK` (R219). -/
def execResp8B (s : State) : Host.Outcome State Fault Refusal := branchStatus 0x8B nlAck s

/-- Response code `0x8C`: a status of `NL_ACK` (R220). -/
def execResp8C (s : State) : Host.Outcome State Fault Refusal := branchStatus 0x8C nlAck s

/-- Response code `0x8D`: a status of `NL_ACK` (R221). -/
def execResp8D (s : State) : Host.Outcome State Fault Refusal := branchStatus 0x8D nlAck s

/-- Response code `0x8F`: a status of `NL_ACK` (R222). -/
def execResp8F (s : State) : Host.Outcome State Fault Refusal := branchStatus 0x8F nlAck s

end Sys2Proof.Machine
end

