-- ==== Sys2Proof/Machine/RespHoming.lean ====
section
/-! DEFINITION. Answers to homing and zero commands: one branch of the Response Decoder per code (46_resp_layouts.md). A branch reads the frame
in RX and leaves its value at the output. -/

namespace Sys2Proof.Machine

/-- Response code `0x90`: a status of `NL_ACK` (R223). -/
def execResp90 (s : State) : Host.Outcome State Fault Refusal := branchStatus 0x90 nlAck s

/-- Response code `0x91`: a status of `NL_HOME` (R224). -/
def execResp91 (s : State) : Host.Outcome State Fault Refusal := branchStatus 0x91 nlHome s

/-- Response code `0x92`: a status of `NL_ACK` (R225). -/
def execResp92 (s : State) : Host.Outcome State Fault Refusal := branchStatus 0x92 nlAck s

/-- Response code `0x9A`: a status of `NL_ACK` (R226). -/
def execResp9A (s : State) : Host.Outcome State Fault Refusal := branchStatus 0x9A nlAck s

end Sys2Proof.Machine
end

