-- ==== Sys2Proof/Machine/RespMaintenance.lean ====
section
/-! DEFINITION. Answers to maintenance commands, and the fallback: one branch of the Response Decoder per code (46_resp_layouts.md). A branch reads the frame
in RX and leaves its value at the output. -/

namespace Sys2Proof.Machine

/-- Response code `0x3F`: a status of `NL_ACK` (R231). -/
def execResp3F (s : State) : Host.Outcome State Fault Refusal := branchStatus 0x3F nlAck s

/-- Response code `0x41`: a status of `NL_ACK` (R232). -/
def execResp41 (s : State) : Host.Outcome State Fault Refusal := branchStatus 0x41 nlAck s

/-- Response code `0xF7`: a status of `NL_ACK` (R233). -/
def execRespF7 (s : State) : Host.Outcome State Fault Refusal := branchStatus 0xF7 nlAck s

/-- Response code `0x80`: a status of `NL_CAL` (R234). -/
def execResp80 (s : State) : Host.Outcome State Fault Refusal := branchStatus 0x80 nlCal s

/-- Response any unrecognised code: the raw dump (R178). -/
def execRespOther (s : State) : Host.Outcome State Fault Refusal := branchRaw s

end Sys2Proof.Machine
end

