-- ==== Sys2Proof/Machine/RespMotion.lean ====
section
/-! DEFINITION. Answers to motion commands: one branch of the Response Decoder per code (46_resp_layouts.md). A branch reads the frame
in RX and leaves its value at the output. -/

namespace Sys2Proof.Machine

/-- Response code `0xF6`: a status of `NL_RUN` (R227). -/
def execRespF6 (s : State) : Host.Outcome State Fault Refusal := branchStatus 0xF6 nlRun s

/-- Response code `0xFD`: a status of `NL_MOVE` (R228). -/
def execRespFD (s : State) : Host.Outcome State Fault Refusal := branchStatus 0xFD nlMove s

/-- Response code `0xFE`: a status of `NL_MOVE` (R229). -/
def execRespFE (s : State) : Host.Outcome State Fault Refusal := branchStatus 0xFE nlMove s

/-- Response code `0xF5`: a status of `NL_MOVE` (R230). -/
def execRespF5 (s : State) : Host.Outcome State Fault Refusal := branchStatus 0xF5 nlMove s

end Sys2Proof.Machine
end

