-- ==== Sys2Proof/Machine/RespReads.lean ====
section
/-! DEFINITION. Answers to status reads: one branch of the Response Decoder per code (46_resp_layouts.md). A branch reads the frame
in RX and leaves its value at the output. -/

namespace Sys2Proof.Machine

/-- Response code `0x30`: the carry and the value (R200). -/
def execResp30 (s : State) : Host.Outcome State Fault Refusal := branchEncCarry 0x30 s

/-- Response code `0x31`: a signed field, format `X8` (R201). -/
def execResp31 (s : State) : Host.Outcome State Fault Refusal := branchSigned 0x31 .w48 s

/-- Response code `0x32`: a signed field, format `X4` (R202). -/
def execResp32 (s : State) : Host.Outcome State Fault Refusal := branchSigned 0x32 .w16 s

/-- Response code `0x33`: a signed field, format `X6` (R203). -/
def execResp33 (s : State) : Host.Outcome State Fault Refusal := branchSigned 0x33 .w32 s

/-- Response code `0x34`: the I/O state byte (R204). -/
def execResp34 (s : State) : Host.Outcome State Fault Refusal := branchByte 0x34 s

/-- Response code `0x35`: a signed field, format `X8` (R205). -/
def execResp35 (s : State) : Host.Outcome State Fault Refusal := branchSigned 0x35 .w48 s

/-- Response code `0x39`: the angle error (R206). -/
def execResp39 (s : State) : Host.Outcome State Fault Refusal := branchAngle 0x39 s

/-- Response code `0x3A`: a status of `NL_EN` (R207). -/
def execResp3A (s : State) : Host.Outcome State Fault Refusal := branchStatus 0x3A nlEn s

/-- Response code `0x3E`: a status of `NL_PROT` (R208). -/
def execResp3E (s : State) : Host.Outcome State Fault Refusal := branchStatus 0x3E nlProt s

end Sys2Proof.Machine
end

