-- ==== Sys2Proof/Machine/StatusReads.lean ====
section
/-! DEFINITION. Command family 1, status reads: the identifier and no other operand, a frame of two data bytes (R100).
Each command has its raw payload, the `P` of its rule in 41_cmd_status_reads.md, and its meaning: encode-and-send of that payload
(47_transport_drain.md R243). -/

namespace Sys2Proof.Machine

/-- `P` of `RD_ENC_CARRY` (R101). -/
def payloadRdEncCarry : List Byte := [0x30]

/-- `RD_ENC_CARRY` (R101). -/
def execRdEncCarry (id : Ident) (s : State) : Host.Outcome State Fault Refusal :=
  encodeAndSend id payloadRdEncCarry s

/-- `P` of `RD_ENC_ADD` (R102). -/
def payloadRdEncAdd : List Byte := [0x31]

/-- `RD_ENC_ADD` (R102). -/
def execRdEncAdd (id : Ident) (s : State) : Host.Outcome State Fault Refusal :=
  encodeAndSend id payloadRdEncAdd s

/-- `P` of `RD_SPEED` (R103). -/
def payloadRdSpeed : List Byte := [0x32]

/-- `RD_SPEED` (R103). -/
def execRdSpeed (id : Ident) (s : State) : Host.Outcome State Fault Refusal :=
  encodeAndSend id payloadRdSpeed s

/-- `P` of `RD_PULSES` (R104). -/
def payloadRdPulses : List Byte := [0x33]

/-- `RD_PULSES` (R104). -/
def execRdPulses (id : Ident) (s : State) : Host.Outcome State Fault Refusal :=
  encodeAndSend id payloadRdPulses s

/-- `P` of `RD_IO` (R105). -/
def payloadRdIo : List Byte := [0x34]

/-- `RD_IO` (R105). -/
def execRdIo (id : Ident) (s : State) : Host.Outcome State Fault Refusal :=
  encodeAndSend id payloadRdIo s

/-- `P` of `RD_ENC_RAW` (R106). -/
def payloadRdEncRaw : List Byte := [0x35]

/-- `RD_ENC_RAW` (R106). -/
def execRdEncRaw (id : Ident) (s : State) : Host.Outcome State Fault Refusal :=
  encodeAndSend id payloadRdEncRaw s

/-- `P` of `RD_ANGLE_ERR` (R107). -/
def payloadRdAngleErr : List Byte := [0x39]

/-- `RD_ANGLE_ERR` (R107). -/
def execRdAngleErr (id : Ident) (s : State) : Host.Outcome State Fault Refusal :=
  encodeAndSend id payloadRdAngleErr s

/-- `P` of `RD_EN` (R108). -/
def payloadRdEn : List Byte := [0x3A]

/-- `RD_EN` (R108). -/
def execRdEn (id : Ident) (s : State) : Host.Outcome State Fault Refusal :=
  encodeAndSend id payloadRdEn s

/-- `P` of `RD_PROTECT` (R109). -/
def payloadRdProtect : List Byte := [0x3E]

/-- `RD_PROTECT` (R109). -/
def execRdProtect (id : Ident) (s : State) : Host.Outcome State Fault Refusal :=
  encodeAndSend id payloadRdProtect s

end Sys2Proof.Machine
end

