-- ==== Sys2Proof/Machine/SystemConfig.lean ====
section
/-! DEFINITION. Command family 2, system configuration: one or two operands, no range check (R120).
Each command has its raw payload, the `P` of its rule in 42_cmd_system_config.md, and its meaning: encode-and-send of that payload
(47_transport_drain.md R243). -/

namespace Sys2Proof.Machine

/-- `P` of `SET_MODE` (R121). -/
def payloadSetMode (mode : Byte) : List Byte := [0x82, mode]

/-- `SET_MODE` (R121). -/
def execSetMode (id : Ident) (mode : Byte) (s : State) : Host.Outcome State Fault Refusal :=
  encodeAndSend id (payloadSetMode mode) s

/-- `P` of `SET_CURRENT` (R122). -/
def payloadSetCurrent (ma : BitVec 16) : List Byte := [0x83, hi ma, lo ma]

/-- `SET_CURRENT` (R122). -/
def execSetCurrent (id : Ident) (ma : BitVec 16) (s : State) : Host.Outcome State Fault Refusal :=
  encodeAndSend id (payloadSetCurrent ma) s

/-- `P` of `SET_MICROSTEP` (R123). -/
def payloadSetMicrostep (mstep : Byte) : List Byte := [0x84, mstep]

/-- `SET_MICROSTEP` (R123). -/
def execSetMicrostep (id : Ident) (mstep : Byte) (s : State) : Host.Outcome State Fault Refusal :=
  encodeAndSend id (payloadSetMicrostep mstep) s

/-- `P` of `SET_EN_ACTIVE` (R124). -/
def payloadSetEnActive (pol : Byte) : List Byte := [0x85, pol]

/-- `SET_EN_ACTIVE` (R124). -/
def execSetEnActive (id : Ident) (pol : Byte) (s : State) : Host.Outcome State Fault Refusal :=
  encodeAndSend id (payloadSetEnActive pol) s

/-- `P` of `SET_DIR` (R125). -/
def payloadSetDir (dir : Byte) : List Byte := [0x86, dir]

/-- `SET_DIR` (R125). -/
def execSetDir (id : Ident) (dir : Byte) (s : State) : Host.Outcome State Fault Refusal :=
  encodeAndSend id (payloadSetDir dir) s

/-- `P` of `SET_AUTO_SLEEP` (R126). -/
def payloadSetAutoSleep (en : Byte) : List Byte := [0x87, en]

/-- `SET_AUTO_SLEEP` (R126). -/
def execSetAutoSleep (id : Ident) (en : Byte) (s : State) : Host.Outcome State Fault Refusal :=
  encodeAndSend id (payloadSetAutoSleep en) s

/-- `P` of `SET_PROTECT` (R127). -/
def payloadSetProtect (en : Byte) : List Byte := [0x88, en]

/-- `SET_PROTECT` (R127). -/
def execSetProtect (id : Ident) (en : Byte) (s : State) : Host.Outcome State Fault Refusal :=
  encodeAndSend id (payloadSetProtect en) s

/-- `P` of `SET_INTERP` (R128). -/
def payloadSetInterp (en : Byte) : List Byte := [0x89, en]

/-- `SET_INTERP` (R128). -/
def execSetInterp (id : Ident) (en : Byte) (s : State) : Host.Outcome State Fault Refusal :=
  encodeAndSend id (payloadSetInterp en) s

/-- `P` of `SET_HOLD_CURRENT` (R129). -/
def payloadSetHoldCurrent (pct : Byte) : List Byte := [0x9B, pct]

/-- `SET_HOLD_CURRENT` (R129). -/
def execSetHoldCurrent (id : Ident) (pct : Byte) (s : State) : Host.Outcome State Fault Refusal :=
  encodeAndSend id (payloadSetHoldCurrent pct) s

/-- `P` of `SET_BUS_RATE` (R130). -/
def payloadSetBusRate (rate : Byte) : List Byte := [0x8A, rate]

/-- `SET_BUS_RATE` (R130). -/
def execSetBusRate (id : Ident) (rate : Byte) (s : State) : Host.Outcome State Fault Refusal :=
  encodeAndSend id (payloadSetBusRate rate) s

/-- `P` of `SET_BUS_ADDR` (R131). -/
def payloadSetBusAddr (addr : BitVec 16) : List Byte := [0x8B, hi addr, lo addr]

/-- `SET_BUS_ADDR` (R131). -/
def execSetBusAddr (id : Ident) (addr : BitVec 16) (s : State) : Host.Outcome State Fault Refusal :=
  encodeAndSend id (payloadSetBusAddr addr) s

/-- `P` of `SET_RESPONSE` (R132). -/
def payloadSetResponse (respond : Byte) (active : Byte) : List Byte := [0x8C, respond, active]

/-- `SET_RESPONSE` (R132). -/
def execSetResponse (id : Ident) (respond : Byte) (active : Byte) (s : State) : Host.Outcome State Fault Refusal :=
  encodeAndSend id (payloadSetResponse respond active) s

/-- `P` of `SET_GROUP_ADDR` (R133). -/
def payloadSetGroupAddr (group : BitVec 16) : List Byte := [0x8D, hi group, lo group]

/-- `SET_GROUP_ADDR` (R133). -/
def execSetGroupAddr (id : Ident) (group : BitVec 16) (s : State) : Host.Outcome State Fault Refusal :=
  encodeAndSend id (payloadSetGroupAddr group) s

/-- `P` of `SET_KEY_LOCK` (R134). -/
def payloadSetKeyLock (en : Byte) : List Byte := [0x8F, en]

/-- `SET_KEY_LOCK` (R134). -/
def execSetKeyLock (id : Ident) (en : Byte) (s : State) : Host.Outcome State Fault Refusal :=
  encodeAndSend id (payloadSetKeyLock en) s

end Sys2Proof.Machine
end

