-- ==== Sys2Proof/Machine/Dispatch.lean ====
section
/-! DEFINITION. Which meaning an instruction has: one arm per row of spec/opcode_table.json. -/

namespace Sys2Proof.Machine

/-- The meaning of an instruction: encode-and-send for a command (47_transport_drain.md R243), a branch of the decoder for
a response row (45_resp_decoder.md R182). -/
def exec (i : Instr) (s : State) : Host.Outcome State Fault Refusal :=
  match i with
  | .rdEncCarry id => Sys2Proof.Machine.execRdEncCarry id s
  | .rdEncAdd id => Sys2Proof.Machine.execRdEncAdd id s
  | .rdSpeed id => Sys2Proof.Machine.execRdSpeed id s
  | .rdPulses id => Sys2Proof.Machine.execRdPulses id s
  | .rdIo id => Sys2Proof.Machine.execRdIo id s
  | .rdEncRaw id => Sys2Proof.Machine.execRdEncRaw id s
  | .rdAngleErr id => Sys2Proof.Machine.execRdAngleErr id s
  | .rdEn id => Sys2Proof.Machine.execRdEn id s
  | .rdProtect id => Sys2Proof.Machine.execRdProtect id s
  | .setMode id mode => Sys2Proof.Machine.execSetMode id mode s
  | .setCurrent id ma => Sys2Proof.Machine.execSetCurrent id ma s
  | .setMicrostep id mstep => Sys2Proof.Machine.execSetMicrostep id mstep s
  | .setEnActive id pol => Sys2Proof.Machine.execSetEnActive id pol s
  | .setDir id dir => Sys2Proof.Machine.execSetDir id dir s
  | .setAutoSleep id en => Sys2Proof.Machine.execSetAutoSleep id en s
  | .setProtect id en => Sys2Proof.Machine.execSetProtect id en s
  | .setInterp id en => Sys2Proof.Machine.execSetInterp id en s
  | .setHoldCurrent id pct => Sys2Proof.Machine.execSetHoldCurrent id pct s
  | .setBusRate id rate => Sys2Proof.Machine.execSetBusRate id rate s
  | .setBusAddr id addr => Sys2Proof.Machine.execSetBusAddr id addr s
  | .setResponse id respond active => Sys2Proof.Machine.execSetResponse id respond active s
  | .setGroupAddr id group => Sys2Proof.Machine.execSetGroupAddr id group s
  | .setKeyLock id en => Sys2Proof.Machine.execSetKeyLock id en s
  | .setHome id trig dir speed endlim mode => Sys2Proof.Machine.execSetHome id trig dir speed endlim mode s
  | .goHome id => Sys2Proof.Machine.execGoHome id s
  | .setZero id => Sys2Proof.Machine.execSetZero id s
  | .setZeroMode id mode en speed dir => Sys2Proof.Machine.execSetZeroMode id mode en speed dir s
  | .rdParam id idx => Sys2Proof.Machine.execRdParam id idx s
  | .speed id dir speed acc => Sys2Proof.Machine.execSpeed id dir speed acc s
  | .stopSpeed id acc => Sys2Proof.Machine.execStopSpeed id acc s
  | .moveRel id dir speed acc pulses => Sys2Proof.Machine.execMoveRel id dir speed acc pulses s
  | .stopRel id acc => Sys2Proof.Machine.execStopRel id acc s
  | .moveAbs id speed acc pos => Sys2Proof.Machine.execMoveAbs id speed acc pos s
  | .stopAbs id acc => Sys2Proof.Machine.execStopAbs id acc s
  | .moveAxis id speed acc axis => Sys2Proof.Machine.execMoveAxis id speed acc axis s
  | .stopAxis id acc => Sys2Proof.Machine.execStopAxis id acc s
  | .restore id => Sys2Proof.Machine.execRestore id s
  | .restart id => Sys2Proof.Machine.execRestart id s
  | .estop id => Sys2Proof.Machine.execEstop id s
  | .calibrate id => Sys2Proof.Machine.execCalibrate id s
  | .resp30 => Sys2Proof.Machine.execResp30 s
  | .resp31 => Sys2Proof.Machine.execResp31 s
  | .resp32 => Sys2Proof.Machine.execResp32 s
  | .resp33 => Sys2Proof.Machine.execResp33 s
  | .resp34 => Sys2Proof.Machine.execResp34 s
  | .resp35 => Sys2Proof.Machine.execResp35 s
  | .resp39 => Sys2Proof.Machine.execResp39 s
  | .resp3A => Sys2Proof.Machine.execResp3A s
  | .resp3E => Sys2Proof.Machine.execResp3E s
  | .resp82 => Sys2Proof.Machine.execResp82 s
  | .resp83 => Sys2Proof.Machine.execResp83 s
  | .resp84 => Sys2Proof.Machine.execResp84 s
  | .resp85 => Sys2Proof.Machine.execResp85 s
  | .resp86 => Sys2Proof.Machine.execResp86 s
  | .resp87 => Sys2Proof.Machine.execResp87 s
  | .resp88 => Sys2Proof.Machine.execResp88 s
  | .resp89 => Sys2Proof.Machine.execResp89 s
  | .resp9B => Sys2Proof.Machine.execResp9B s
  | .resp8A => Sys2Proof.Machine.execResp8A s
  | .resp8B => Sys2Proof.Machine.execResp8B s
  | .resp8C => Sys2Proof.Machine.execResp8C s
  | .resp8D => Sys2Proof.Machine.execResp8D s
  | .resp8F => Sys2Proof.Machine.execResp8F s
  | .resp90 => Sys2Proof.Machine.execResp90 s
  | .resp91 => Sys2Proof.Machine.execResp91 s
  | .resp92 => Sys2Proof.Machine.execResp92 s
  | .resp9A => Sys2Proof.Machine.execResp9A s
  | .respF6 => Sys2Proof.Machine.execRespF6 s
  | .respFD => Sys2Proof.Machine.execRespFD s
  | .respFE => Sys2Proof.Machine.execRespFE s
  | .respF5 => Sys2Proof.Machine.execRespF5 s
  | .resp3F => Sys2Proof.Machine.execResp3F s
  | .resp41 => Sys2Proof.Machine.execResp41 s
  | .respF7 => Sys2Proof.Machine.execRespF7 s
  | .resp80 => Sys2Proof.Machine.execResp80 s
  | .respOther _ => Sys2Proof.Machine.execRespOther s

end Sys2Proof.Machine
end

