-- ==== Sys2Proof/Machine/Encoder.lean ====
section
/-! DEFINITION. The pure encode operation (10_state.md R26): the raw payload of a command without a send. -/

namespace Sys2Proof.Machine

/-- The identifier and the raw payload of a command; none for a response row. -/
def rawPayload : Instr → Option (Ident × List Byte)
  | .rdEncCarry id => some (id, payloadRdEncCarry)
  | .rdEncAdd id => some (id, payloadRdEncAdd)
  | .rdSpeed id => some (id, payloadRdSpeed)
  | .rdPulses id => some (id, payloadRdPulses)
  | .rdIo id => some (id, payloadRdIo)
  | .rdEncRaw id => some (id, payloadRdEncRaw)
  | .rdAngleErr id => some (id, payloadRdAngleErr)
  | .rdEn id => some (id, payloadRdEn)
  | .rdProtect id => some (id, payloadRdProtect)
  | .setMode id mode => some (id, payloadSetMode mode)
  | .setCurrent id ma => some (id, payloadSetCurrent ma)
  | .setMicrostep id mstep => some (id, payloadSetMicrostep mstep)
  | .setEnActive id pol => some (id, payloadSetEnActive pol)
  | .setDir id dir => some (id, payloadSetDir dir)
  | .setAutoSleep id en => some (id, payloadSetAutoSleep en)
  | .setProtect id en => some (id, payloadSetProtect en)
  | .setInterp id en => some (id, payloadSetInterp en)
  | .setHoldCurrent id pct => some (id, payloadSetHoldCurrent pct)
  | .setBusRate id rate => some (id, payloadSetBusRate rate)
  | .setBusAddr id addr => some (id, payloadSetBusAddr addr)
  | .setResponse id respond active => some (id, payloadSetResponse respond active)
  | .setGroupAddr id group => some (id, payloadSetGroupAddr group)
  | .setKeyLock id en => some (id, payloadSetKeyLock en)
  | .setHome id trig dir speed endlim mode => some (id, payloadSetHome trig dir speed endlim mode)
  | .goHome id => some (id, payloadGoHome)
  | .setZero id => some (id, payloadSetZero)
  | .setZeroMode id mode en speed dir => some (id, payloadSetZeroMode mode en speed dir)
  | .rdParam id idx => some (id, payloadRdParam idx)
  | .speed id dir speed acc => some (id, payloadSpeed dir speed acc)
  | .stopSpeed id acc => some (id, payloadStopSpeed acc)
  | .moveRel id dir speed acc pulses => some (id, payloadMoveRel dir speed acc pulses)
  | .stopRel id acc => some (id, payloadStopRel acc)
  | .moveAbs id speed acc pos => some (id, payloadMoveAbs speed acc pos)
  | .stopAbs id acc => some (id, payloadStopAbs acc)
  | .moveAxis id speed acc axis => some (id, payloadMoveAxis speed acc axis)
  | .stopAxis id acc => some (id, payloadStopAxis acc)
  | .restore id => some (id, payloadRestore)
  | .restart id => some (id, payloadRestart)
  | .estop id => some (id, payloadEstop)
  | .calibrate id => some (id, payloadCalibrate)
  | .resp30 => none
  | .resp31 => none
  | .resp32 => none
  | .resp33 => none
  | .resp34 => none
  | .resp35 => none
  | .resp39 => none
  | .resp3A => none
  | .resp3E => none
  | .resp82 => none
  | .resp83 => none
  | .resp84 => none
  | .resp85 => none
  | .resp86 => none
  | .resp87 => none
  | .resp88 => none
  | .resp89 => none
  | .resp9B => none
  | .resp8A => none
  | .resp8B => none
  | .resp8C => none
  | .resp8D => none
  | .resp8F => none
  | .resp90 => none
  | .resp91 => none
  | .resp92 => none
  | .resp9A => none
  | .respF6 => none
  | .respFD => none
  | .respFE => none
  | .respF5 => none
  | .resp3F => none
  | .resp41 => none
  | .respF7 => none
  | .resp80 => none
  | .respOther _ => none

end Sys2Proof.Machine
end

