-- ==== Sys2Proof/Machine/Boundary.lean ====
section
/-! DEFINITION. The operations of the host (47_transport_drain.md R248), each one transaction: what `step` performs for
the caller's next call. -/

namespace Sys2Proof.Machine

/-- An outcome's next state changed by `f`; a fault or a refusal stays. -/
def mapNext (o : Host.Outcome State Fault Refusal) (f : State → State) : Host.Outcome State Fault Refusal :=
  match o with
  | .next s => .next (f s)
  | .fault r => .fault r
  | .refused r => .refused r

/-- `T.open()`: the Transport answers, and its answer is the connection's state and the result (47_transport_drain.md
R240, R242). DESIGN CHOICE (entry 15): a second `open` sets the connection to its own answer. -/
def performOpen (T : Handle) (s : State) : Host.Outcome State Fault Refusal :=
  .next { s with
    transports := setTransport s.transports T (afterOpenAnswer (openAnswer T s) (transportOf s T))
    oracleIndex := s.oracleIndex + 1
    returned := s.returned ++ [.openResult (openAnswer T s)] }

/-- `cksum(id, bytes)` (40_checksum.md R90). -/
def performCksum (id : Ident) (bytes : List Byte) (s : State) : Host.Outcome State Fault Refusal :=
  .next { s with returned := s.returned ++ [.checksum (cksum id bytes)] }

/-- `encode_and_send` of the command on the ports, through the Transport with handle `T`: an index that selects none is
refused (10_state.md R25, R26, 47_transport_drain.md R243). -/
def performEncodeAndSend (T : Handle) (p : EncPorts) (s : State) : Host.Outcome State Fault Refusal :=
  match decodeCommand p with
  | .ok i => exec i { s with handle := T }
  | .error _ => .refused (.noSuchCommand p.op)

/-- `encode` of the command on the ports: the frame is built and handed back; nothing is sent (47_transport_drain.md
R248, 10_state.md R26). -/
def performEncode (p : EncPorts) (s : State) : Host.Outcome State Fault Refusal :=
  match (decodeCommand p).toOption.bind rawPayload with
  | none => .refused (.noSuchCommand p.op)
  | some (id, P) =>
    match formFrame id P with
    | .error f => .fault f
    | .ok b => .next { s with returned := s.returned ++ [.frame (frameIn b)] }

/-- A frame taken into RX. -/
def takeFrame (f : Frame) (s : State) : State := { s with rx := bufferOf f }

/-- The decoder on the frame in RX: an empty frame is `Skipped`, else lane 0 selects the branch (45_resp_decoder.md
R172, R179, R182). -/
def decodeRx (s : State) : Host.Outcome State Fault Refusal :=
  if s.rx.len.val = 0 then yieldParse s .skipped else exec (dispatch (readLane s.rx.mem 0)) s

/-- The end of a `decode` call: the value is returned, the frame and the value are discarded (10_state.md R29). -/
def returnParsed (s : State) : State :=
  { s with returned := s.returned ++ [.parsed s.pr], pr := .skipped, rx := Buffer.none }

/-- The end of one iteration of a drain: the value goes to the drain's sink, which emits nothing for `Skipped`; the frame
and the value are discarded (47_transport_drain.md R246, R249, 10_state.md R29). -/
def reportParsed (sink : Sink) (s : State) : State :=
  { s with
    reports := if s.pr = .skipped then s.reports else s.reports ++ [⟨sink, s.pr⟩]
    pr := .skipped
    rx := Buffer.none }

/-- The frame on the ports; none when its length is outside the frame type (10_state.md R27). -/
def portFrame (p : RxPorts) : Option Frame :=
  if h : p.len.toNat < 9 then some ⟨p.id, ⟨p.len.toNat, h⟩, p.data⟩ else none

/-- `decode` of the frame on the ports (10_state.md R27, 45_resp_decoder.md R170). -/
def performDecode (p : RxPorts) (s : State) : Host.Outcome State Fault Refusal :=
  match portFrame p with
  | none => .refused (.frameTooLong p.len)
  | some f => mapNext (decodeRx (takeFrame f s)) returnParsed

/-- One `T.receive` has been made, with the receive timeout (47_transport_drain.md R245, R246). -/
def pollTransport (T : Handle) (s : State) : State :=
  { s with
    polled := s.polled ++ [⟨T, s.cfg.recvTimeoutMs⟩]
    transports := setTransport s.transports T (afterReceiveAnswer (transportOf s T))
    oracleIndex := s.oracleIndex + 1 }

/-- One iteration of the drain loop (47_transport_drain.md R246): `T.receive`; on `false` the loop returns, its only
exit; on a frame, decode and report to the sink, and the drain is the caller's call still. No bound on the iterations
(R247). -/
def performDrain (T : Handle) (sink : Sink) (s : State) : Host.Outcome State Fault Refusal :=
  if (transportOf s T).opened then
    match receiveAnswer T s with
    | none => .next { pollTransport T s with returned := s.returned ++ [.drained] }
    | some f =>
      mapNext (decodeRx (takeFrame f { pollTransport T s with calls := .drain T sink :: s.calls })) (reportParsed sink)
  else .refused .transportNotOpen

/-- The operation a call asks for, in a state from which the call has been taken. -/
def perform (c : Call) (s : State) : Host.Outcome State Fault Refusal :=
  match c with
  | .openTransport T => performOpen T s
  | .encode p => performEncode p s
  | .encodeAndSend T p => performEncodeAndSend T p s
  | .decode p => performDecode p s
  | .drain T sink => performDrain T sink s
  | .cksum id bytes => performCksum id bytes s

/-- The call that makes the machine run a table word: the command on the encoder's ports, or the frame on the decoder's
(entries 10, 11). The command goes through the Transport with handle 0 (entry 10). DESIGN CHOICE (entry 28), safe: a word
has data bytes only, and the received frame it stands for is given the identifier 0, which the decoder never reads
(10_state.md R24). -/
def callOfWord (nbits w : Nat) : Option Call :=
  match decodeTableWord nbits w with
  | none => none
  | some i =>
    match encodePorts i with
    | some p => some (.encodeAndSend 0 p)
    | none =>
      some (.decode ⟨0, BitVec.ofNat 4 (nbits / 8), (frameOf 0 (laneBytes nbits w)).data⟩)

end Sys2Proof.Machine
end

