-- ==== Sys2Proof/Machine/Step.lean ====
section
/-! DEFINITION. One step: the caller's next call is performed (20_memory.md R50). -/

namespace Sys2Proof.Machine

/-- One step. With no call nothing happens: `CORE` acts on nobody's behalf but the caller's (entry 13). -/
def step (s : State) : Host.Outcome State Fault Refusal :=
  match s.calls with
  | [] => .next s
  | c :: rest => perform c { s with calls := rest }

/-- The state with a table word as the caller's next call, the Transport with handle 0 opened (entry 10). A word that is
no frame changes nothing. -/
def State.withFetchWord (s : State) (nbits w : Nat) : State :=
  match callOfWord nbits w with
  | none => s
  | some c =>
    { s with
      calls := c :: s.calls
      transports := setTransport s.transports 0 { transportOf s 0 with opened := true } }

end Sys2Proof.Machine
end

