-- ==== Sys2Proof/Machine/Assembler.lean ====
section
/-! DEFINITION. The textual syntax of 30_encoding.md R82, `MNEMONIC id, operands`, token by token: a mnemonic and the
operands in the order of the command's rule, the identifier first. -/

namespace Sys2Proof.Machine

/-- A line of the syntax: the mnemonic and its operands, the identifier first (30_encoding.md R82). -/
structure AsmLine where
  mnemonic : String
  operands : List Int
deriving DecidableEq, Repr

/-- An unsigned operand of `w` bits; none outside its range. -/
def unsignedOperand (w : Nat) (v : Int) : Option (BitVec w) :=
  if 0 ≤ v ∧ v < 2 ^ w then some (BitVec.ofInt w v) else none

/-- A signed 24-bit operand, as its two's-complement pattern; none outside its range (30_encoding.md R68). -/
def signedOperand (v : Int) : Option (BitVec 24) :=
  if -8388608 ≤ v ∧ v < 8388608 then some (BitVec.ofInt 24 v) else none

/-- The mnemonic of an instruction's row of opcode_table.json (30_encoding.md R76, R86). -/
def mnemonicOf : Instr → String
  | .rdEncCarry _ => "RD_ENC_CARRY"
  | .rdEncAdd _ => "RD_ENC_ADD"
  | .rdSpeed _ => "RD_SPEED"
  | .rdPulses _ => "RD_PULSES"
  | .rdIo _ => "RD_IO"
  | .rdEncRaw _ => "RD_ENC_RAW"
  | .rdAngleErr _ => "RD_ANGLE_ERR"
  | .rdEn _ => "RD_EN"
  | .rdProtect _ => "RD_PROTECT"
  | .setMode _ _ => "SET_MODE"
  | .setCurrent _ _ => "SET_CURRENT"
  | .setMicrostep _ _ => "SET_MICROSTEP"
  | .setEnActive _ _ => "SET_EN_ACTIVE"
  | .setDir _ _ => "SET_DIR"
  | .setAutoSleep _ _ => "SET_AUTO_SLEEP"
  | .setProtect _ _ => "SET_PROTECT"
  | .setInterp _ _ => "SET_INTERP"
  | .setHoldCurrent _ _ => "SET_HOLD_CURRENT"
  | .setBusRate _ _ => "SET_BUS_RATE"
  | .setBusAddr _ _ => "SET_BUS_ADDR"
  | .setResponse _ _ _ => "SET_RESPONSE"
  | .setGroupAddr _ _ => "SET_GROUP_ADDR"
  | .setKeyLock _ _ => "SET_KEY_LOCK"
  | .setHome _ _ _ _ _ _ => "SET_HOME"
  | .goHome _ => "GO_HOME"
  | .setZero _ => "SET_ZERO"
  | .setZeroMode _ _ _ _ _ => "SET_ZERO_MODE"
  | .rdParam _ _ => "RD_PARAM"
  | .speed _ _ _ _ => "SPEED"
  | .stopSpeed _ _ => "STOP_SPEED"
  | .moveRel _ _ _ _ _ => "MOVE_REL"
  | .stopRel _ _ => "STOP_REL"
  | .moveAbs _ _ _ _ => "MOVE_ABS"
  | .stopAbs _ _ => "STOP_ABS"
  | .moveAxis _ _ _ _ => "MOVE_AXIS"
  | .stopAxis _ _ => "STOP_AXIS"
  | .restore _ => "RESTORE"
  | .restart _ => "RESTART"
  | .estop _ => "ESTOP"
  | .calibrate _ => "CALIBRATE"
  | .resp30 => "RESP_30"
  | .resp31 => "RESP_31"
  | .resp32 => "RESP_32"
  | .resp33 => "RESP_33"
  | .resp34 => "RESP_34"
  | .resp35 => "RESP_35"
  | .resp39 => "RESP_39"
  | .resp3A => "RESP_3A"
  | .resp3E => "RESP_3E"
  | .resp82 => "RESP_82"
  | .resp83 => "RESP_83"
  | .resp84 => "RESP_84"
  | .resp85 => "RESP_85"
  | .resp86 => "RESP_86"
  | .resp87 => "RESP_87"
  | .resp88 => "RESP_88"
  | .resp89 => "RESP_89"
  | .resp9B => "RESP_9B"
  | .resp8A => "RESP_8A"
  | .resp8B => "RESP_8B"
  | .resp8C => "RESP_8C"
  | .resp8D => "RESP_8D"
  | .resp8F => "RESP_8F"
  | .resp90 => "RESP_90"
  | .resp91 => "RESP_91"
  | .resp92 => "RESP_92"
  | .resp9A => "RESP_9A"
  | .respF6 => "RESP_F6"
  | .respFD => "RESP_FD"
  | .respFE => "RESP_FE"
  | .respF5 => "RESP_F5"
  | .resp3F => "RESP_3F"
  | .resp41 => "RESP_41"
  | .respF7 => "RESP_F7"
  | .resp80 => "RESP_80"
  | .respOther _ => "RESP_OTHER"

/-- The operands of a command as numbers, in the order of its rule; none for a response row, which no line asks for. -/
def operandsOf : Instr → Option (List Int)
  | .rdEncCarry id => some [(id.toNat : Int)]
  | .rdEncAdd id => some [(id.toNat : Int)]
  | .rdSpeed id => some [(id.toNat : Int)]
  | .rdPulses id => some [(id.toNat : Int)]
  | .rdIo id => some [(id.toNat : Int)]
  | .rdEncRaw id => some [(id.toNat : Int)]
  | .rdAngleErr id => some [(id.toNat : Int)]
  | .rdEn id => some [(id.toNat : Int)]
  | .rdProtect id => some [(id.toNat : Int)]
  | .setMode id mode => some [(id.toNat : Int), mode.toNat]
  | .setCurrent id ma => some [(id.toNat : Int), ma.toNat]
  | .setMicrostep id mstep => some [(id.toNat : Int), mstep.toNat]
  | .setEnActive id pol => some [(id.toNat : Int), pol.toNat]
  | .setDir id dir => some [(id.toNat : Int), dir.toNat]
  | .setAutoSleep id en => some [(id.toNat : Int), en.toNat]
  | .setProtect id en => some [(id.toNat : Int), en.toNat]
  | .setInterp id en => some [(id.toNat : Int), en.toNat]
  | .setHoldCurrent id pct => some [(id.toNat : Int), pct.toNat]
  | .setBusRate id rate => some [(id.toNat : Int), rate.toNat]
  | .setBusAddr id addr => some [(id.toNat : Int), addr.toNat]
  | .setResponse id respond active => some [(id.toNat : Int), respond.toNat, active.toNat]
  | .setGroupAddr id group => some [(id.toNat : Int), group.toNat]
  | .setKeyLock id en => some [(id.toNat : Int), en.toNat]
  | .setHome id trig dir speed endlim mode => some [(id.toNat : Int), trig.toNat, dir.toNat, speed.toNat, endlim.toNat, mode.toNat]
  | .goHome id => some [(id.toNat : Int)]
  | .setZero id => some [(id.toNat : Int)]
  | .setZeroMode id mode en speed dir => some [(id.toNat : Int), mode.toNat, en.toNat, speed.toNat, dir.toNat]
  | .rdParam id idx => some [(id.toNat : Int), idx.toNat]
  | .speed id dir speed acc => some [(id.toNat : Int), dir.toNat, speed.toNat, acc.toNat]
  | .stopSpeed id acc => some [(id.toNat : Int), acc.toNat]
  | .moveRel id dir speed acc pulses => some [(id.toNat : Int), dir.toNat, speed.toNat, acc.toNat, pulses.toNat]
  | .stopRel id acc => some [(id.toNat : Int), acc.toNat]
  | .moveAbs id speed acc pos => some [(id.toNat : Int), speed.toNat, acc.toNat, pos.toInt]
  | .stopAbs id acc => some [(id.toNat : Int), acc.toNat]
  | .moveAxis id speed acc axis => some [(id.toNat : Int), speed.toNat, acc.toNat, axis.toInt]
  | .stopAxis id acc => some [(id.toNat : Int), acc.toNat]
  | .restore id => some [(id.toNat : Int)]
  | .restart id => some [(id.toNat : Int)]
  | .estop id => some [(id.toNat : Int)]
  | .calibrate id => some [(id.toNat : Int)]
  | .resp30 => none
  | .resp31 => none
  | .resp32 => none
  | .resp33 => none
  | .resp34 => none
  | .resp35 => none
  | .resp39 => none
  | .resp3A => none
  | .resp3E => none
  | .resp82 => none
  | .resp83 => none
  | .resp84 => none
  | .resp85 => none
  | .resp86 => none
  | .resp87 => none
  | .resp88 => none
  | .resp89 => none
  | .resp9B => none
  | .resp8A => none
  | .resp8B => none
  | .resp8C => none
  | .resp8D => none
  | .resp8F => none
  | .resp90 => none
  | .resp91 => none
  | .resp92 => none
  | .resp9A => none
  | .respF6 => none
  | .respFD => none
  | .respFE => none
  | .respF5 => none
  | .resp3F => none
  | .resp41 => none
  | .respF7 => none
  | .resp80 => none
  | .respOther _ => none

/-- The line that asks for a command (30_encoding.md R82). -/
def disassemble (i : Instr) : Option AsmLine := (operandsOf i).map fun ops => ⟨mnemonicOf i, ops⟩

/-- The mnemonics of the Command Catalog, each at its index (30_encoding.md R76, 10_state.md R26). -/
def commandMnemonics : List String :=
  ["RD_ENC_CARRY", "RD_ENC_ADD", "RD_SPEED", "RD_PULSES", "RD_IO"] ++
  ["RD_ENC_RAW", "RD_ANGLE_ERR", "RD_EN", "RD_PROTECT", "SET_MODE"] ++
  ["SET_CURRENT", "SET_MICROSTEP", "SET_EN_ACTIVE", "SET_DIR", "SET_AUTO_SLEEP"] ++
  ["SET_PROTECT", "SET_INTERP", "SET_HOLD_CURRENT", "SET_BUS_RATE", "SET_BUS_ADDR"] ++
  ["SET_RESPONSE", "SET_GROUP_ADDR", "SET_KEY_LOCK", "SET_HOME", "GO_HOME"] ++
  ["SET_ZERO", "SET_ZERO_MODE", "RD_PARAM", "SPEED", "STOP_SPEED"] ++
  ["MOVE_REL", "STOP_REL", "MOVE_ABS", "STOP_ABS", "MOVE_AXIS"] ++
  ["STOP_AXIS", "RESTORE", "RESTART", "ESTOP", "CALIBRATE"]

/-- The command with that index and those operands: none for a wrong number of operands or an operand outside its
type (30_encoding.md R82). -/
def commandOf (index : Nat) (operands : List Int) : Option Instr :=
  match index with
  | 0 =>
    match operands with
    | [id] => do return .rdEncCarry (← unsignedOperand 32 id)
    | _ => none
  | 1 =>
    match operands with
    | [id] => do return .rdEncAdd (← unsignedOperand 32 id)
    | _ => none
  | 2 =>
    match operands with
    | [id] => do return .rdSpeed (← unsignedOperand 32 id)
    | _ => none
  | 3 =>
    match operands with
    | [id] => do return .rdPulses (← unsignedOperand 32 id)
    | _ => none
  | 4 =>
    match operands with
    | [id] => do return .rdIo (← unsignedOperand 32 id)
    | _ => none
  | 5 =>
    match operands with
    | [id] => do return .rdEncRaw (← unsignedOperand 32 id)
    | _ => none
  | 6 =>
    match operands with
    | [id] => do return .rdAngleErr (← unsignedOperand 32 id)
    | _ => none
  | 7 =>
    match operands with
    | [id] => do return .rdEn (← unsignedOperand 32 id)
    | _ => none
  | 8 =>
    match operands with
    | [id] => do return .rdProtect (← unsignedOperand 32 id)
    | _ => none
  | 9 =>
    match operands with
    | [id, mode] => do return .setMode (← unsignedOperand 32 id) (← unsignedOperand 8 mode)
    | _ => none
  | 10 =>
    match operands with
    | [id, ma] => do return .setCurrent (← unsignedOperand 32 id) (← unsignedOperand 16 ma)
    | _ => none
  | 11 =>
    match operands with
    | [id, mstep] => do return .setMicrostep (← unsignedOperand 32 id) (← unsignedOperand 8 mstep)
    | _ => none
  | 12 =>
    match operands with
    | [id, pol] => do return .setEnActive (← unsignedOperand 32 id) (← unsignedOperand 8 pol)
    | _ => none
  | 13 =>
    match operands with
    | [id, dir] => do return .setDir (← unsignedOperand 32 id) (← unsignedOperand 8 dir)
    | _ => none
  | 14 =>
    match operands with
    | [id, en] => do return .setAutoSleep (← unsignedOperand 32 id) (← unsignedOperand 8 en)
    | _ => none
  | 15 =>
    match operands with
    | [id, en] => do return .setProtect (← unsignedOperand 32 id) (← unsignedOperand 8 en)
    | _ => none
  | 16 =>
    match operands with
    | [id, en] => do return .setInterp (← unsignedOperand 32 id) (← unsignedOperand 8 en)
    | _ => none
  | 17 =>
    match operands with
    | [id, pct] => do return .setHoldCurrent (← unsignedOperand 32 id) (← unsignedOperand 8 pct)
    | _ => none
  | 18 =>
    match operands with
    | [id, rate] => do return .setBusRate (← unsignedOperand 32 id) (← unsignedOperand 8 rate)
    | _ => none
  | 19 =>
    match operands with
    | [id, addr] => do return .setBusAddr (← unsignedOperand 32 id) (← unsignedOperand 16 addr)
    | _ => none
  | 20 =>
    match operands with
    | [id, respond, active] => do return .setResponse (← unsignedOperand 32 id) (← unsignedOperand 8 respond) (← unsignedOperand 8 active)
    | _ => none
  | 21 =>
    match operands with
    | [id, group] => do return .setGroupAddr (← unsignedOperand 32 id) (← unsignedOperand 16 group)
    | _ => none
  | 22 =>
    match operands with
    | [id, en] => do return .setKeyLock (← unsignedOperand 32 id) (← unsignedOperand 8 en)
    | _ => none
  | 23 =>
    match operands with
    | [id, trig, dir, speed, endlim, mode] => do return .setHome (← unsignedOperand 32 id) (← unsignedOperand 8 trig) (← unsignedOperand 8 dir) (← unsignedOperand 16 speed) (← unsignedOperand 8 endlim) (← unsignedOperand 8 mode)
    | _ => none
  | 24 =>
    match operands with
    | [id] => do return .goHome (← unsignedOperand 32 id)
    | _ => none
  | 25 =>
    match operands with
    | [id] => do return .setZero (← unsignedOperand 32 id)
    | _ => none
  | 26 =>
    match operands with
    | [id, mode, en, speed, dir] => do return .setZeroMode (← unsignedOperand 32 id) (← unsignedOperand 8 mode) (← unsignedOperand 8 en) (← unsignedOperand 8 speed) (← unsignedOperand 8 dir)
    | _ => none
  | 27 =>
    match operands with
    | [id, idx] => do return .rdParam (← unsignedOperand 32 id) (← unsignedOperand 8 idx)
    | _ => none
  | 28 =>
    match operands with
    | [id, dir, speed, acc] => do return .speed (← unsignedOperand 32 id) (← unsignedOperand 1 dir) (← unsignedOperand 16 speed) (← unsignedOperand 8 acc)
    | _ => none
  | 29 =>
    match operands with
    | [id, acc] => do return .stopSpeed (← unsignedOperand 32 id) (← unsignedOperand 8 acc)
    | _ => none
  | 30 =>
    match operands with
    | [id, dir, speed, acc, pulses] => do return .moveRel (← unsignedOperand 32 id) (← unsignedOperand 1 dir) (← unsignedOperand 16 speed) (← unsignedOperand 8 acc) (← unsignedOperand 24 pulses)
    | _ => none
  | 31 =>
    match operands with
    | [id, acc] => do return .stopRel (← unsignedOperand 32 id) (← unsignedOperand 8 acc)
    | _ => none
  | 32 =>
    match operands with
    | [id, speed, acc, pos] => do return .moveAbs (← unsignedOperand 32 id) (← unsignedOperand 16 speed) (← unsignedOperand 8 acc) (← signedOperand pos)
    | _ => none
  | 33 =>
    match operands with
    | [id, acc] => do return .stopAbs (← unsignedOperand 32 id) (← unsignedOperand 8 acc)
    | _ => none
  | 34 =>
    match operands with
    | [id, speed, acc, axis] => do return .moveAxis (← unsignedOperand 32 id) (← unsignedOperand 16 speed) (← unsignedOperand 8 acc) (← signedOperand axis)
    | _ => none
  | 35 =>
    match operands with
    | [id, acc] => do return .stopAxis (← unsignedOperand 32 id) (← unsignedOperand 8 acc)
    | _ => none
  | 36 =>
    match operands with
    | [id] => do return .restore (← unsignedOperand 32 id)
    | _ => none
  | 37 =>
    match operands with
    | [id] => do return .restart (← unsignedOperand 32 id)
    | _ => none
  | 38 =>
    match operands with
    | [id] => do return .estop (← unsignedOperand 32 id)
    | _ => none
  | 39 =>
    match operands with
    | [id] => do return .calibrate (← unsignedOperand 32 id)
    | _ => none
  | _ => none

/-- The command a line asks for; none for an unknown mnemonic (30_encoding.md R82). -/
def assemble (l : AsmLine) : Option Instr :=
  match commandMnemonics.findIdx? (fun m => m == l.mnemonic) with
  | some index => commandOf index l.operands
  | none => none

/-- A line as text: the mnemonic, the identifier, the operands after commas, in decimal (30_encoding.md R82). -/
def asmText (l : AsmLine) : String := l.mnemonic ++ " " ++ ", ".intercalate (l.operands.map toString)

end Sys2Proof.Machine
end

