-- ==== Sys2Proof/Machine/Ports.lean ====
section
/-! DEFINITION. The output ports of the one conforming port binding (10_state.md R26, R27): functions of the frame a
transaction built and of the value it produced. Ports the produced kind does not use are zero. -/

namespace Sys2Proof.Machine

/-- The output ports of an encode transaction: `tx_id`, `tx_len`, `tx_data0` to `tx_data7` (10_state.md R26). -/
structure TxPorts where
  id : Ident
  len : BitVec 4
  data : Lanes
deriving DecidableEq, Repr

/-- The frame on the output ports. -/
def txPorts (f : Frame) : TxPorts := ⟨f.id, BitVec.ofNat 4 f.len.val, f.data⟩

/-- The output ports of a decode transaction (10_state.md R27). -/
structure PrPorts where
  /-- `pr_kind[2:0]` -/
  kind : BitVec 3
  /-- `pr_code[7:0]` -/
  code : Byte
  /-- `pr_value[63:0]` -/
  value : BitVec 64
  /-- `pr_width[5:0]` -/
  width : BitVec 6
  /-- `pr_aux[15:0]` -/
  aux : BitVec 16
  /-- `pr_deg_num[63:0]` -/
  degNum : BitVec 64
  /-- `pr_byte[7:0]` -/
  byte : Byte
  /-- `pr_named` -/
  named : BitVec 1
  /-- `pr_dump_len[3:0]` -/
  dumpLen : BitVec 4
  /-- `pr_dump0[7:0]` to `pr_dump7[7:0]` -/
  dump : Lanes
deriving DecidableEq, Repr

/-- All ports zero. -/
def PrPorts.zero : PrPorts := ⟨0, 0, 0, 0, 0, 0, 0, 0, 0, ⟨0, 0, 0, 0, 0, 0, 0, 0⟩⟩

/-- A signed width on `pr_width` (10_state.md R27). -/
def widthBits : SignedWidth → BitVec 6
  | .w16 => 16
  | .w32 => 32
  | .w48 => 48

/-- A decoded value on the output ports, by kind (10_state.md R27). -/
def prPorts : ParsedResponse → PrPorts
  | .skipped => PrPorts.zero
  | .rawDump bs =>
    { PrPorts.zero with kind := 1, dumpLen := BitVec.ofNat 4 bs.length, dump := (frameOf 0 bs).data }
  | .encCarry code carry value =>
    { PrPorts.zero with kind := 2, code := code, value := BitVec.ofInt 64 carry, aux := value }
  | .signed code w v =>
    { PrPorts.zero with kind := 3, code := code, value := BitVec.ofInt 64 v, width := widthBits w }
  | .angleErr code ticks num =>
    { PrPorts.zero with kind := 4, code := code, value := BitVec.ofInt 64 ticks, degNum := BitVec.ofInt 64 num }
  | .statusByte code b => { PrPorts.zero with kind := 5, code := code, byte := b }
  | .status code i (.named _) => { PrPorts.zero with kind := 6, code := code, byte := i, named := 1 }
  | .status code i .unknown => { PrPorts.zero with kind := 6, code := code, byte := i, named := 0 }

end Sys2Proof.Machine
end

