-- ==== Sys2Proof/Safety.lean ====
section
/-! DEFINITION. The terms claims are stated in: which outcome an answer is, what holds between transactions, what an
operation leaves alone, and the values the spec gives a field. -/

namespace Sys2Proof.Machine

/-- The outcome is a next state. -/
def isNext : Host.Outcome State Fault Refusal → Bool
  | .next _ => true
  | .fault _ => false
  | .refused _ => false

/-- The outcome is a fault. -/
def isFault : Host.Outcome State Fault Refusal → Bool
  | .next _ => false
  | .fault _ => true
  | .refused _ => false

/-- Between transactions `CORE` holds nothing: no frame in TX, none in RX, no value, no handle (10_state.md R20, R25, R29,
70_reset_and_hazards.md R290). -/
def Idle (s : State) : Prop := s.tx = Buffer.none ∧ s.rx = Buffer.none ∧ s.pr = .skipped ∧ s.handle = 0

/-- Both buffers are in canonical form, and the Transports are listed with rising handles. -/
def Canonical (s : State) : Prop := s.tx.mem.wf = true ∧ s.rx.mem.wf = true ∧ s.transports.wf = true

/-- The handle a call is passed, if it uses a Transport (47_transport_drain.md R248). -/
def handleOf : Call → Option Handle
  | .openTransport T => some T
  | .encode _ => none
  | .encodeAndSend T _ => some T
  | .decode _ => none
  | .drain T _ => some T
  | .cksum _ _ => none

/-- A state whose Transport with handle 0 has been opened and has no answer listed; else as after reset. -/
def openedReset : State := { State.reset with transports := [(0, { Transport.fresh with opened := true })] }

/-- The state after one `encode_and_send` of the frame with that identifier and those data bytes, through the Transport
whose handle was passed: the frame handed to its `send` with the send timeout, its answer taken and returned, nothing
else (47_transport_drain.md R243). -/
def afterSend (s : State) (id : Ident) (data : List Byte) : State :=
  { s with
    sent := s.sent ++ [⟨s.handle, frameOf id data, s.cfg.sendTimeoutMs⟩]
    returned := s.returned ++ [.sendResult (sendAnswer s)]
    transports := setTransport s.transports s.handle (afterSendAnswer (transportOf s s.handle))
    oracleIndex := s.oracleIndex + 1
    tx := Buffer.none
    handle := 0 }

/-- Lane `k` of the frame in RX. -/
def rxLane (s : State) (k : Nat) : Byte := readLane s.rx.mem k

/-- The least frame length a recognised code's branch accepts, the column `min len` of 30_encoding.md R77; `w` is
`ANGLE_ERR_BYTES`. None for a code that is not recognised. -/
def minLenOf (w : AngleWidth) (code : Byte) : Option Nat :=
  match code.toNat with
  | 0x30 => some 8
  | 0x31 => some 8
  | 0x32 => some 4
  | 0x33 => some 6
  | 0x34 => some 3
  | 0x35 => some 8
  | 0x39 => some (match w with | .four => 6 | .six => 8)
  | _ => if responseCodes.contains code then some 3 else none

/-- The name list of an enumerated-status code, the last column of the table of 45_resp_decoder.md R176; none for a
code whose layout is not `X3`. -/
def namesOf (code : Byte) : Option (List StatusWord) :=
  match code.toNat with
  | 0x30 => none
  | 0x31 => none
  | 0x32 => none
  | 0x33 => none
  | 0x34 => none
  | 0x35 => none
  | 0x39 => none
  | 0x3A => some [.disabled, .enabled]
  | 0x3E => some [.notProtected, .isProtected]
  | 0x91 => some [.fail, .started, .success]
  | 0x80 => some [.calibrating, .success, .fail]
  | 0xF6 => some [.fail, .started, .stopComplete]
  | 0xF5 => some [.fail, .started, .complete, .endLimitStop]
  | 0xFD => some [.fail, .started, .complete, .endLimitStop]
  | 0xFE => some [.fail, .started, .complete, .endLimitStop]
  | _ => if responseCodes.contains code then some [.fail, .success] else none

/-- The value the decoder gives a frame (45_resp_decoder.md R170): decoded from RX in a state that holds nothing but the
frame and the configuration. -/
def decodedValue (cfg : Config) (f : Frame) : Option ParsedResponse :=
  match decodeRx { State.reset with cfg := cfg, rx := bufferOf f } with
  | .next t => some t.pr
  | .fault _ => none
  | .refused _ => none

/-- The frame an instruction hands to `send` on an open Transport, if it sends one. -/
def frameSent (i : Instr) : Option Frame :=
  match exec i openedReset with
  | .next t => t.sent.head?.map Sent.frame
  | .fault _ => none
  | .refused _ => none

/-- How many bits of `enc_arg` the operands of the command with that index take, the sum of their widths (10_state.md
R26, 30_encoding.md R76). -/
def argBits (op : Nat) : Nat :=
  match op with
  | 9 => 8
  | 10 => 16
  | 11 => 8
  | 12 => 8
  | 13 => 8
  | 14 => 8
  | 15 => 8
  | 16 => 8
  | 17 => 8
  | 18 => 8
  | 19 => 16
  | 20 => 16
  | 21 => 16
  | 22 => 8
  | 23 => 48
  | 26 => 32
  | 27 => 8
  | 28 => 25
  | 29 => 8
  | 30 => 49
  | 31 => 8
  | 32 => 48
  | 33 => 8
  | 34 => 48
  | 35 => 8
  | _ => 0

/-- The name of an index in a list of two names (45_resp_decoder.md R176). -/
def nameOfTwo (a b : StatusWord) (i : Byte) : StatusName :=
  if i = 0 then .named a else if i = 1 then .named b else .unknown

/-- The name of an index in a list of three names (45_resp_decoder.md R176). -/
def nameOfThree (a b c : StatusWord) (i : Byte) : StatusName :=
  if i = 0 then .named a else if i = 1 then .named b else if i = 2 then .named c else .unknown

/-- The name of an index in a list of four names (45_resp_decoder.md R176). -/
def nameOfFour (a b c d : StatusWord) (i : Byte) : StatusName :=
  if i = 0 then .named a else if i = 1 then .named b else if i = 2 then .named c
  else if i = 3 then .named d else .unknown

/-- The state after a status branch: `Skipped` for a frame shorter than 3, else the code, the raw index of lane 1 and
its name (45_resp_decoder.md R173, R176); nothing else changes. -/
def afterStatus (s : State) (code : Byte) (name : Byte → StatusName) : State :=
  { s with pr := if s.rx.len.val < 3 then .skipped else .status code (rxLane s 1) (name (rxLane s 1)) }

/-- The state after a branch of that minimum length which reads that value; nothing else changes (45_resp_decoder.md
R173). -/
def afterParse (s : State) (least : Nat) (value : ParsedResponse) : State :=
  { s with pr := if s.rx.len.val < least then .skipped else value }

/-- What the sink receives for a list of frames, in order: the value of each, but nothing for `Skipped`
(47_transport_drain.md R246, R249). -/
def reportsOf (cfg : Config) (fs : List Frame) : List ParsedResponse :=
  (fs.filterMap (decodedValue cfg)).filter fun r => decide (r ≠ .skipped)

/-- The bytes of a frame agree with a row's `match` under its `mask`, lane by lane (30_encoding.md R86). -/
def agreesWith (pattern : List Byte × List Byte) (bytes : List Byte) : Bool :=
  (bytes.zip pattern.2).map (fun p => p.1 &&& p.2) == pattern.1

/-- The identifier with its upper 24 bits zero (40_checksum.md R91). -/
def lowId (id : Ident) : Ident := id &&& 0xFF

/-- The low 12 bits of a speed, `trunc_12(s)` (30_encoding.md R69). -/
def low12 (s : BitVec 16) : BitVec 16 := s &&& 0x0FFF

/-- What a command's frame data tells of the command (30_encoding.md R83, 40_checksum.md R91,
70_reset_and_hazards.md R304): the low byte of the identifier, the low 12 bits of a packed speed, and of a move with all
its fields but the acceleration zero only its stop. -/
def frameReading : Instr → Instr
  | .rdEncCarry id => .rdEncCarry (lowId id)
  | .rdEncAdd id => .rdEncAdd (lowId id)
  | .rdSpeed id => .rdSpeed (lowId id)
  | .rdPulses id => .rdPulses (lowId id)
  | .rdIo id => .rdIo (lowId id)
  | .rdEncRaw id => .rdEncRaw (lowId id)
  | .rdAngleErr id => .rdAngleErr (lowId id)
  | .rdEn id => .rdEn (lowId id)
  | .rdProtect id => .rdProtect (lowId id)
  | .setMode id mode => .setMode (lowId id) mode
  | .setCurrent id ma => .setCurrent (lowId id) ma
  | .setMicrostep id mstep => .setMicrostep (lowId id) mstep
  | .setEnActive id pol => .setEnActive (lowId id) pol
  | .setDir id dir => .setDir (lowId id) dir
  | .setAutoSleep id en => .setAutoSleep (lowId id) en
  | .setProtect id en => .setProtect (lowId id) en
  | .setInterp id en => .setInterp (lowId id) en
  | .setHoldCurrent id pct => .setHoldCurrent (lowId id) pct
  | .setBusRate id rate => .setBusRate (lowId id) rate
  | .setBusAddr id addr => .setBusAddr (lowId id) addr
  | .setResponse id respond active => .setResponse (lowId id) respond active
  | .setGroupAddr id group => .setGroupAddr (lowId id) group
  | .setKeyLock id en => .setKeyLock (lowId id) en
  | .setHome id trig dir speed endlim mode => .setHome (lowId id) trig dir speed endlim mode
  | .goHome id => .goHome (lowId id)
  | .setZero id => .setZero (lowId id)
  | .setZeroMode id mode en speed dir => .setZeroMode (lowId id) mode en speed dir
  | .rdParam id idx => .rdParam (lowId id) idx
  | .speed id dir speed acc =>
    if dir = 0 ∧ low12 speed = 0 then .stopSpeed (lowId id) acc else .speed (lowId id) dir (low12 speed) acc
  | .stopSpeed id acc => .stopSpeed (lowId id) acc
  | .moveRel id dir speed acc pulses =>
    if dir = 0 ∧ low12 speed = 0 ∧ pulses = 0 then .stopRel (lowId id) acc
    else .moveRel (lowId id) dir (low12 speed) acc pulses
  | .stopRel id acc => .stopRel (lowId id) acc
  | .moveAbs id speed acc pos =>
    if speed = 0 ∧ pos = 0 then .stopAbs (lowId id) acc else .moveAbs (lowId id) speed acc pos
  | .stopAbs id acc => .stopAbs (lowId id) acc
  | .moveAxis id speed acc axis =>
    if speed = 0 ∧ axis = 0 then .stopAxis (lowId id) acc else .moveAxis (lowId id) speed acc axis
  | .stopAxis id acc => .stopAxis (lowId id) acc
  | .restore id => .restore (lowId id)
  | .restart id => .restart (lowId id)
  | .estop id => .estop (lowId id)
  | .calibrate id => .calibrate (lowId id)
  | .resp30 => .resp30
  | .resp31 => .resp31
  | .resp32 => .resp32
  | .resp33 => .resp33
  | .resp34 => .resp34
  | .resp35 => .resp35
  | .resp39 => .resp39
  | .resp3A => .resp3A
  | .resp3E => .resp3E
  | .resp82 => .resp82
  | .resp83 => .resp83
  | .resp84 => .resp84
  | .resp85 => .resp85
  | .resp86 => .resp86
  | .resp87 => .resp87
  | .resp88 => .resp88
  | .resp89 => .resp89
  | .resp9B => .resp9B
  | .resp8A => .resp8A
  | .resp8B => .resp8B
  | .resp8C => .resp8C
  | .resp8D => .resp8D
  | .resp8F => .resp8F
  | .resp90 => .resp90
  | .resp91 => .resp91
  | .resp92 => .resp92
  | .resp9A => .resp9A
  | .respF6 => .respF6
  | .respFD => .respFD
  | .respFE => .respFE
  | .respF5 => .respF5
  | .resp3F => .resp3F
  | .resp41 => .resp41
  | .respF7 => .respF7
  | .resp80 => .resp80
  | .respOther code => .respOther code

end Sys2Proof.Machine
end

