-- ==== Sys2Proof/Certificates/Slice0/Obligations.lean ====
section
/-! DEFINITION. The statements about the model, for the provers. -/

open Sys2Proof Sys2Proof.Machine

/-! The Checksum Unit. -/

/-- 40_checksum.md R90: the sum of the identifier and every byte, over the naturals, modulo 256; with its two worked
examples. -/
def Obligations.ChecksumIsSumModulo256 : Prop :=
  (∀ (id : Ident) (P : List Byte), (cksum id P).toNat = (id.toNat + (P.map BitVec.toNat).sum) % 256) ∧
  cksum 0x01 [0x30] = 0x31 ∧ cksum 0x01 [0x83, 0x01, 0xF4] = 0x79

/-- 40_checksum.md R91, which the spec marks as derived from R90: only the low byte of the identifier matters, and an 8-bit adder chain that starts from it and
drops the carries computes the same byte; with its two examples. -/
def Obligations.ChecksumIsEightBitAdderChain : Prop :=
  (∀ (id : Ident) (P : List Byte),
    cksum id P = cksum ((id.extractLsb' 0 8).setWidth 32) P ∧
    cksum id P = P.foldl (fun acc b => acc + b) (id.extractLsb' 0 8)) ∧
  (∀ P : List Byte, cksum 0x101 P = cksum 0x01 P) ∧ cksum 0x100 [0x30] = 0x30

/-- 40_checksum.md R96, which the spec marks as derived from R90 and R91: an accumulator of any width of at least 8 bits that wraps around gives the same byte. -/
def Obligations.ChecksumSurvivesAccumulatorWrap : Prop :=
  ∀ (w : Nat) (id : Ident) (P : List Byte), 8 ≤ w →
    (P.foldl (fun (acc : BitVec w) b => acc + b.setWidth w) (id.setWidth w)).setWidth 8 = cksum id P

/-- 40_checksum.md R97 (a), (b), (c), (e), which the spec marks as derived from R90: order-independence, incrementality, neutrality of zero bytes, and the sum of a
sealed frame, which is twice its checksum. -/
def Obligations.ChecksumAlgebra : Prop :=
  ∀ (id : Ident) (P Q : List Byte),
    (P.Perm Q → cksum id P = cksum id Q) ∧
    (cksum id (P ++ Q)).toNat = ((cksum id P).toNat + (Q.map BitVec.toNat).sum) % 256 ∧
    (∀ n, cksum id (P ++ List.replicate n 0 ++ Q) = cksum id (P ++ Q)) ∧
    (id.toNat + ((P ++ [cksum id P]).map BitVec.toNat).sum) % 256 = (2 * (cksum id P).toNat) % 256

/-! What the commands send. When the Transport whose handle was passed is open (`s.opened`), each command answers a next
state, in which one frame has been handed to its `send`; `afterSend` says everything else is unchanged but that
Transport's answers. -/

/-- 41_cmd_status_reads.md R101 to R109: the two-byte frame of each status read. -/
def Obligations.StatusReadsSendCodeAndChecksum : Prop :=
  ∀ (s : State) (id : Ident), s.opened = true →
    exec (.rdEncCarry id) s = .next (afterSend s id [0x30, cksum id [0x30]]) ∧
    exec (.rdEncAdd id) s = .next (afterSend s id [0x31, cksum id [0x31]]) ∧
    exec (.rdSpeed id) s = .next (afterSend s id [0x32, cksum id [0x32]]) ∧
    exec (.rdPulses id) s = .next (afterSend s id [0x33, cksum id [0x33]]) ∧
    exec (.rdIo id) s = .next (afterSend s id [0x34, cksum id [0x34]]) ∧
    exec (.rdEncRaw id) s = .next (afterSend s id [0x35, cksum id [0x35]]) ∧
    exec (.rdAngleErr id) s = .next (afterSend s id [0x39, cksum id [0x39]]) ∧
    exec (.rdEn id) s = .next (afterSend s id [0x3A, cksum id [0x3A]]) ∧
    exec (.rdProtect id) s = .next (afterSend s id [0x3E, cksum id [0x3E]])

/-- 42_cmd_system_config.md R121, R123 to R130, R134: the ten configuration commands of one byte operand, copied
unchanged over its whole range. -/
def Obligations.ByteConfigurationSendsOperandUnchanged : Prop :=
  ∀ (s : State) (id : Ident) (a : Byte), s.opened = true →
    exec (.setMode id a) s = .next (afterSend s id [0x82, a, cksum id [0x82, a]]) ∧
    exec (.setMicrostep id a) s = .next (afterSend s id [0x84, a, cksum id [0x84, a]]) ∧
    exec (.setEnActive id a) s = .next (afterSend s id [0x85, a, cksum id [0x85, a]]) ∧
    exec (.setDir id a) s = .next (afterSend s id [0x86, a, cksum id [0x86, a]]) ∧
    exec (.setAutoSleep id a) s = .next (afterSend s id [0x87, a, cksum id [0x87, a]]) ∧
    exec (.setProtect id a) s = .next (afterSend s id [0x88, a, cksum id [0x88, a]]) ∧
    exec (.setInterp id a) s = .next (afterSend s id [0x89, a, cksum id [0x89, a]]) ∧
    exec (.setHoldCurrent id a) s = .next (afterSend s id [0x9B, a, cksum id [0x9B, a]]) ∧
    exec (.setBusRate id a) s = .next (afterSend s id [0x8A, a, cksum id [0x8A, a]]) ∧
    exec (.setKeyLock id a) s = .next (afterSend s id [0x8F, a, cksum id [0x8F, a]])

/-- 42_cmd_system_config.md R122, R131, R132, R133: the configuration commands of two operand bytes; a 16-bit operand most
significant byte first. The checksum of a new address uses the old identifier. -/
def Obligations.WideConfigurationSendsBigEndian : Prop :=
  ∀ (s : State) (id : Ident) (x : BitVec 16) (a b : Byte), s.opened = true →
    exec (.setCurrent id x) s = .next (afterSend s id
      [0x83, x.extractLsb' 8 8, x.extractLsb' 0 8, cksum id [0x83, x.extractLsb' 8 8, x.extractLsb' 0 8]]) ∧
    exec (.setBusAddr id x) s = .next (afterSend s id
      [0x8B, x.extractLsb' 8 8, x.extractLsb' 0 8, cksum id [0x8B, x.extractLsb' 8 8, x.extractLsb' 0 8]]) ∧
    exec (.setGroupAddr id x) s = .next (afterSend s id
      [0x8D, x.extractLsb' 8 8, x.extractLsb' 0 8, cksum id [0x8D, x.extractLsb' 8 8, x.extractLsb' 0 8]]) ∧
    exec (.setResponse id a b) s = .next (afterSend s id [0x8C, a, b, cksum id [0x8C, a, b]])

/-- 43_cmd_homing_param.md R141 to R145: homing, zero and parameter read. -/
def Obligations.HomingAndParameterFrames : Prop :=
  ∀ (s : State) (id : Ident) (trig dir endlim mode en speed8 idx : Byte) (speed : BitVec 16), s.opened = true →
    exec (.setHome id trig dir speed endlim mode) s = .next (afterSend s id
      [0x90, trig, dir, speed.extractLsb' 8 8, speed.extractLsb' 0 8, endlim, mode,
       cksum id [0x90, trig, dir, speed.extractLsb' 8 8, speed.extractLsb' 0 8, endlim, mode]]) ∧
    exec (.goHome id) s = .next (afterSend s id [0x91, cksum id [0x91]]) ∧
    exec (.setZero id) s = .next (afterSend s id [0x92, cksum id [0x92]]) ∧
    exec (.setZeroMode id mode en speed8 dir) s = .next (afterSend s id
      [0x9A, mode, en, speed8, dir, cksum id [0x9A, mode, en, speed8, dir]]) ∧
    exec (.rdParam id idx) s = .next (afterSend s id [0x00, idx, cksum id [0x00, idx]])

/-- 44_cmd_motion_maint.md R151, R153, R155, R157: the moves. The packed lane holds the direction in bit 7, zeros in
bits 6 to 4 and `speed[11:8]`; a target is its 24-bit two's-complement pattern, most significant byte first. -/
def Obligations.MovesPackDirectionSpeedAndTarget : Prop :=
  ∀ (s : State) (id : Ident) (dir : BitVec 1) (speed : BitVec 16) (acc : Byte) (m : BitVec 24), s.opened = true →
    (let P := [0xF6, dir ++ 0#3 ++ speed.extractLsb' 8 4, speed.extractLsb' 0 8, acc]
     exec (.speed id dir speed acc) s = .next (afterSend s id (P ++ [cksum id P]))) ∧
    (let P := [0xFD, dir ++ 0#3 ++ speed.extractLsb' 8 4, speed.extractLsb' 0 8, acc,
       m.extractLsb' 16 8, m.extractLsb' 8 8, m.extractLsb' 0 8]
     exec (.moveRel id dir speed acc m) s = .next (afterSend s id (P ++ [cksum id P]))) ∧
    (let P := [0xFE, speed.extractLsb' 8 8, speed.extractLsb' 0 8, acc,
       m.extractLsb' 16 8, m.extractLsb' 8 8, m.extractLsb' 0 8]
     exec (.moveAbs id speed acc m) s = .next (afterSend s id (P ++ [cksum id P]))) ∧
    (let P := [0xF5, speed.extractLsb' 8 8, speed.extractLsb' 0 8, acc,
       m.extractLsb' 16 8, m.extractLsb' 8 8, m.extractLsb' 0 8]
     exec (.moveAxis id speed acc m) s = .next (afterSend s id (P ++ [cksum id P])))

/-- 44_cmd_motion_maint.md R152, R154, R156, R158: the stop variants, every field but the acceleration zero. -/
def Obligations.StopsSendZeroFieldsAndAcceleration : Prop :=
  ∀ (s : State) (id : Ident) (acc : Byte), s.opened = true →
    exec (.stopSpeed id acc) s = .next (afterSend s id [0xF6, 0, 0, acc, cksum id [0xF6, 0, 0, acc]]) ∧
    exec (.stopRel id acc) s = .next (afterSend s id
      [0xFD, 0, 0, acc, 0, 0, 0, cksum id [0xFD, 0, 0, acc, 0, 0, 0]]) ∧
    exec (.stopAbs id acc) s = .next (afterSend s id
      [0xFE, 0, 0, acc, 0, 0, 0, cksum id [0xFE, 0, 0, acc, 0, 0, 0]]) ∧
    exec (.stopAxis id acc) s = .next (afterSend s id
      [0xF5, 0, 0, acc, 0, 0, 0, cksum id [0xF5, 0, 0, acc, 0, 0, 0]])

/-- 44_cmd_motion_maint.md R161 to R164: maintenance; calibrate carries a constant zero byte. -/
def Obligations.MaintenanceFrames : Prop :=
  ∀ (s : State) (id : Ident), s.opened = true →
    exec (.restore id) s = .next (afterSend s id [0x3F, cksum id [0x3F]]) ∧
    exec (.restart id) s = .next (afterSend s id [0x41, cksum id [0x41]]) ∧
    exec (.estop id) s = .next (afterSend s id [0xF7, cksum id [0xF7]]) ∧
    exec (.calibrate id) s = .next (afterSend s id [0x80, 0x00, cksum id [0x80, 0x00]])

/-- 30_encoding.md R76, 47_transport_drain.md R243: what a command hands to `send` is the frame of its row of the
Command Catalog, written lane by lane by the encoder, for every command and every operand; exactly one `send`. -/
def Obligations.EveryCommandSendsItsTableFrame : Prop :=
  ∀ (i : Instr) (p : EncPorts) (s : State), encodePorts i = some p → s.opened = true →
    exec i s = .next (afterSend s p.id (encode i))

/-- 30_encoding.md R83, which the spec marks as derived from R151 to R158: the equalities of the stop variants with their
moves; and `CALIBRATE` is encode-and-send of the code `0x80` with an operand `0x00`. -/
def Obligations.StopEqualsMoveWithZeroFields : Prop :=
  ∀ (s : State) (id : Ident) (acc : Byte),
    exec (.stopSpeed id acc) s = exec (.speed id 0 0 acc) s ∧
    exec (.stopRel id acc) s = exec (.moveRel id 0 0 acc 0) s ∧
    exec (.stopAbs id acc) s = exec (.moveAbs id 0 acc 0) s ∧
    exec (.stopAxis id acc) s = exec (.moveAxis id 0 acc 0) s ∧
    exec (.calibrate id) s = encodeAndSend id [0x80, 0x00] s

/-- 70_reset_and_hazards.md R304: two `SPEED`, and two `MOVE_REL`, send the same frame exactly when they agree on
everything but the upper four bits of the speed. -/
def Obligations.PackedSpeedLosesExactlyItsUpperFourBits : Prop :=
  ∀ (id id' : Ident) (dir dir' : BitVec 1) (v v' : BitVec 16) (acc acc' : Byte) (m m' : BitVec 24),
    (frameSent (.speed id dir v acc) = frameSent (.speed id' dir' v' acc') ↔
      id = id' ∧ dir = dir' ∧ v.extractLsb' 0 12 = v'.extractLsb' 0 12 ∧ acc = acc') ∧
    (frameSent (.moveRel id dir v acc m) = frameSent (.moveRel id' dir' v' acc' m') ↔
      id = id' ∧ dir = dir' ∧ v.extractLsb' 0 12 = v'.extractLsb' 0 12 ∧ acc = acc' ∧ m = m')

/-- 30_encoding.md R66 to R68: the layouts without a packed lane lose nothing: equal frames come from equal operands. -/
def Obligations.PlainLayoutsLoseNothing : Prop :=
  ∀ (id id' : Ident) (x x' : BitVec 16) (a a' b b' c c' d d' : Byte) (m m' : BitVec 24),
    (frameSent (.setCurrent id x) = frameSent (.setCurrent id' x') ↔ id = id' ∧ x = x') ∧
    (frameSent (.setHome id a b x c d) = frameSent (.setHome id' a' b' x' c' d') ↔
      id = id' ∧ a = a' ∧ b = b' ∧ x = x' ∧ c = c' ∧ d = d') ∧
    (frameSent (.moveAbs id x a m) = frameSent (.moveAbs id' x' a' m') ↔ id = id' ∧ x = x' ∧ a = a' ∧ m = m') ∧
    (frameSent (.moveAxis id x a m) = frameSent (.moveAxis id' x' a' m') ↔ id = id' ∧ x = x' ∧ a = a' ∧ m = m')

/-- 47_transport_drain.md R243: the frame a command hands to `send` depends on the command alone: from any two open
states the same command sends the same frame. -/
def Obligations.EqualCommandsSendEqualFrames : Prop :=
  ∀ (i : Instr) (s s' t t' : State), exec i s = .next t → exec i s' = .next t' →
    ∃ new : List Frame, t.sent = s.sent ++ new.map (fun f => ⟨s.handle, f, s.cfg.sendTimeoutMs⟩) ∧
      t'.sent = s'.sent ++ new.map (fun f => ⟨s'.handle, f, s'.cfg.sendTimeoutMs⟩)

/-- 70_reset_and_hazards.md R300, R303, 30_encoding.md R61: every frame an instruction hands to `send` has 2 to 8 data
bytes, carries the checksum of the bytes before it, and is zero above its length; a response row sends nothing. -/
def Obligations.EveryFrameSentIsSealedAndFits : Prop :=
  ∀ (i : Instr) (s t : State), exec i s = .next t →
    (encodePorts i = none ∧ t.sent = s.sent) ∨
    (∃ f p, encodePorts i = some p ∧ t.sent = s.sent ++ [⟨s.handle, f, s.cfg.sendTimeoutMs⟩] ∧
      f.id = p.id ∧
      2 ≤ f.len.val ∧ f.len.val ≤ 8 ∧ cksumOk f = true ∧
      ∀ k, f.len.val ≤ k → (laneList f.data).getD k 0 = 0)

/-- 30_encoding.md R86: the frame data of a command agrees with its row's match under its mask. -/
def Obligations.CommandFramesMatchTheirRow : Prop :=
  ∀ (i : Instr) (p : EncPorts), encodePorts i = some p →
    (encode i).length = (rowPattern i).2.length ∧ agreesWith (rowPattern i) (encode i) = true

/-- 40_checksum.md R92: the append rule on the buffer: for a raw payload of at most 7 bytes TX is formed with the payload in
lanes 0 to `|P| - 1`, its checksum in lane `|P|`, zero above, the length `|P| + 1`, the identifier unchanged, in
canonical form (entry 8). A payload of 8 bytes or more has no frame (70_reset_and_hazards.md R300); that forming one
faults is the model's choice (entry 9). -/
def Obligations.AppendRuleFormsTheBuffer : Prop :=
  ∀ (id : Ident) (P : List Byte),
    (P.length ≤ 7 → ∃ b, formFrame id P = .ok b ∧ b.id = id ∧ b.len.val = P.length + 1 ∧ b.mem.wf = true ∧
      readLane b.mem P.length = cksum id P ∧
      (∀ k, k < P.length → readLane b.mem k = P.getD k 0) ∧ ∀ k, P.length < k → readLane b.mem k = 0) ∧
    (8 ≤ P.length → formFrame id P = .error .txLaneOutOfRange)

/-- 47_transport_drain.md R242 gives `send` and `receive` on a Transport that is not open no meaning; that every command and the
drain are refused there by name, whatever other Transports are open, is the model's choice (entry 6). -/
def Obligations.ClosedTransportIsRefused : Prop :=
  ∀ (i : Instr) (p : EncPorts) (s : State), s.opened = false → encodePorts i = some p →
    exec i s = .refused .transportNotOpen ∧
    ∀ (rest : List Call) (T : Handle) (sink : Sink), (transportOf s T).opened = false →
      step { s with calls := .encodeAndSend T p :: rest } = .refused .transportNotOpen ∧
      step { s with calls := .drain T sink :: rest } = .refused .transportNotOpen

/-! What the response rows deliver. A branch answers a next state from every state. -/

/-- 46_resp_layouts.md R200: the carry form. -/
def Obligations.CarryResponseDeliversBothFields : Prop :=
  ∀ s : State, dispatch 0x30 = .resp30 ∧
    exec .resp30 s = .next (afterParse s 8 (.encCarry 0x30
      (rxLane s 1 ++ rxLane s 2 ++ rxLane s 3 ++ rxLane s 4 : BitVec 32).toInt (rxLane s 5 ++ rxLane s 6)))

/-- 46_resp_layouts.md R201, R202, R203, R205: the signed fields of 48, 16, 32 and 48 bits. -/
def Obligations.SignedResponsesSignExtend : Prop :=
  ∀ s : State,
    dispatch 0x31 = .resp31 ∧ dispatch 0x32 = .resp32 ∧ dispatch 0x33 = .resp33 ∧ dispatch 0x35 = .resp35 ∧
    exec .resp31 s = .next (afterParse s 8 (.signed 0x31 .w48
      (rxLane s 1 ++ rxLane s 2 ++ rxLane s 3 ++ rxLane s 4 ++ rxLane s 5 ++ rxLane s 6 : BitVec 48).toInt)) ∧
    exec .resp32 s = .next (afterParse s 4 (.signed 0x32 .w16 (rxLane s 1 ++ rxLane s 2 : BitVec 16).toInt)) ∧
    exec .resp33 s = .next (afterParse s 6 (.signed 0x33 .w32
      (rxLane s 1 ++ rxLane s 2 ++ rxLane s 3 ++ rxLane s 4 : BitVec 32).toInt)) ∧
    exec .resp35 s = .next (afterParse s 8 (.signed 0x35 .w48
      (rxLane s 1 ++ rxLane s 2 ++ rxLane s 3 ++ rxLane s 4 ++ rxLane s 5 ++ rxLane s 6 : BitVec 48).toInt))

/-- 46_resp_layouts.md R206, 45_resp_decoder.md R175, 10_state.md R27: the angle error in both widths of
`ANGLE_ERR_BYTES`: the ticks unchanged, and the degrees. R206 delivers the quotient `ticks * 9 / 1280`; that the value holds
its numerator `ticks * 9` alone, the denominator being constant, is the model's choice (entry 18). -/
def Obligations.AngleErrorDeliversTicksAndDegrees : Prop :=
  ∀ s : State, dispatch 0x39 = .resp39 ∧
    (let ticks : Int := match s.cfg.angleErrBytes with
      | .four => (rxLane s 1 ++ rxLane s 2 ++ rxLane s 3 ++ rxLane s 4 : BitVec 32).toInt
      | .six => (rxLane s 1 ++ rxLane s 2 ++ rxLane s 3 ++ rxLane s 4 ++ rxLane s 5 ++ rxLane s 6 : BitVec 48).toInt
     let least := match s.cfg.angleErrBytes with
      | .four => 6
      | .six => 8
     exec .resp39 s = .next (afterParse s least (.angleErr 0x39 ticks (ticks * 9))))

/-- 46_resp_layouts.md R204, R207, R208: the I/O state byte, the enable state and the protection state. -/
def Obligations.StatusReadAnswersDeliverOneByte : Prop :=
  ∀ s : State, dispatch 0x34 = .resp34 ∧ dispatch 0x3A = .resp3A ∧ dispatch 0x3E = .resp3E ∧
    exec .resp34 s = .next (afterParse s 3 (.statusByte 0x34 (rxLane s 1))) ∧
    exec .resp3A s = .next (afterStatus s 0x3A (nameOfTwo .disabled .enabled)) ∧
    exec .resp3E s = .next (afterStatus s 0x3E (nameOfTwo .notProtected .isProtected))

/-- 46_resp_layouts.md R209 to R215: acknowledgements of configuration commands, first half. -/
def Obligations.ConfigurationAcknowledgementsFirstHalf : Prop :=
  ∀ s : State,
    dispatch 0x82 = .resp82 ∧ dispatch 0x83 = .resp83 ∧ dispatch 0x84 = .resp84 ∧ dispatch 0x85 = .resp85 ∧
    dispatch 0x86 = .resp86 ∧ dispatch 0x87 = .resp87 ∧ dispatch 0x88 = .resp88 ∧
    exec .resp82 s = .next (afterStatus s 0x82 (nameOfTwo .fail .success)) ∧
    exec .resp83 s = .next (afterStatus s 0x83 (nameOfTwo .fail .success)) ∧
    exec .resp84 s = .next (afterStatus s 0x84 (nameOfTwo .fail .success)) ∧
    exec .resp85 s = .next (afterStatus s 0x85 (nameOfTwo .fail .success)) ∧
    exec .resp86 s = .next (afterStatus s 0x86 (nameOfTwo .fail .success)) ∧
    exec .resp87 s = .next (afterStatus s 0x87 (nameOfTwo .fail .success)) ∧
    exec .resp88 s = .next (afterStatus s 0x88 (nameOfTwo .fail .success))

/-- 46_resp_layouts.md R216 to R222: acknowledgements of configuration commands, second half. -/
def Obligations.ConfigurationAcknowledgementsSecondHalf : Prop :=
  ∀ s : State,
    dispatch 0x89 = .resp89 ∧ dispatch 0x9B = .resp9B ∧ dispatch 0x8A = .resp8A ∧ dispatch 0x8B = .resp8B ∧
    dispatch 0x8C = .resp8C ∧ dispatch 0x8D = .resp8D ∧ dispatch 0x8F = .resp8F ∧
    exec .resp89 s = .next (afterStatus s 0x89 (nameOfTwo .fail .success)) ∧
    exec .resp9B s = .next (afterStatus s 0x9B (nameOfTwo .fail .success)) ∧
    exec .resp8A s = .next (afterStatus s 0x8A (nameOfTwo .fail .success)) ∧
    exec .resp8B s = .next (afterStatus s 0x8B (nameOfTwo .fail .success)) ∧
    exec .resp8C s = .next (afterStatus s 0x8C (nameOfTwo .fail .success)) ∧
    exec .resp8D s = .next (afterStatus s 0x8D (nameOfTwo .fail .success)) ∧
    exec .resp8F s = .next (afterStatus s 0x8F (nameOfTwo .fail .success))

/-- 46_resp_layouts.md R223 to R226: answers to homing and zero commands. -/
def Obligations.HomingAndZeroAnswers : Prop :=
  ∀ s : State,
    dispatch 0x90 = .resp90 ∧ dispatch 0x91 = .resp91 ∧ dispatch 0x92 = .resp92 ∧ dispatch 0x9A = .resp9A ∧
    exec .resp90 s = .next (afterStatus s 0x90 (nameOfTwo .fail .success)) ∧
    exec .resp91 s = .next (afterStatus s 0x91 (nameOfThree .fail .started .success)) ∧
    exec .resp92 s = .next (afterStatus s 0x92 (nameOfTwo .fail .success)) ∧
    exec .resp9A s = .next (afterStatus s 0x9A (nameOfTwo .fail .success))

/-- 46_resp_layouts.md R227 to R230: answers to motion commands. -/
def Obligations.MotionAnswers : Prop :=
  ∀ s : State,
    dispatch 0xF6 = .respF6 ∧ dispatch 0xFD = .respFD ∧ dispatch 0xFE = .respFE ∧ dispatch 0xF5 = .respF5 ∧
    exec .respF6 s = .next (afterStatus s 0xF6 (nameOfThree .fail .started .stopComplete)) ∧
    exec .respFD s = .next (afterStatus s 0xFD (nameOfFour .fail .started .complete .endLimitStop)) ∧
    exec .respFE s = .next (afterStatus s 0xFE (nameOfFour .fail .started .complete .endLimitStop)) ∧
    exec .respF5 s = .next (afterStatus s 0xF5 (nameOfFour .fail .started .complete .endLimitStop))

/-- 46_resp_layouts.md R231 to R234: answers to maintenance commands. -/
def Obligations.MaintenanceAnswers : Prop :=
  ∀ s : State,
    dispatch 0x3F = .resp3F ∧ dispatch 0x41 = .resp41 ∧ dispatch 0xF7 = .respF7 ∧ dispatch 0x80 = .resp80 ∧
    exec .resp3F s = .next (afterStatus s 0x3F (nameOfTwo .fail .success)) ∧
    exec .resp41 s = .next (afterStatus s 0x41 (nameOfTwo .fail .success)) ∧
    exec .respF7 s = .next (afterStatus s 0xF7 (nameOfTwo .fail .success)) ∧
    exec .resp80 s = .next (afterStatus s 0x80 (nameOfThree .calibrating .success .fail))

/-- 45_resp_decoder.md R178, R179: a received frame whose lane 0 is none of the 35 codes is dumped whole, whatever its
length of at least 1; an empty frame is skipped. The last clause is about `exec` of the row of the fallback by itself: that
it dumps every frame of at least one byte, also one whose lane 0 is a recognised code or is not the row's own code, and
also for a row whose code is a recognised one, is the model's choice (entry 22); R178 speaks of unrecognised lanes 0. -/
def Obligations.UnrecognisedFramesAreDumpedWhole : Prop :=
  ∀ (s : State) (f : Frame),
    (1 ≤ f.len.val → f.data.d0 ∉ responseCodes →
      decodeRx (takeFrame f s) = .next { takeFrame f s with pr := .rawDump ((laneList f.data).take f.len.val) }) ∧
    (f.len.val = 0 → decodeRx (takeFrame f s) = .next { takeFrame f s with pr := .skipped }) ∧
    ∀ code, 1 ≤ f.len.val → exec (.respOther code) (takeFrame f s) =
      .next { takeFrame f s with pr := .rawDump ((laneList f.data).take f.len.val) }

/-- 45_resp_decoder.md R173, 30_encoding.md R77: a frame of a recognised code that is shorter than the code's minimum
length is skipped. -/
def Obligations.ShortFramesAreSkipped : Prop :=
  ∀ (s : State) (f : Frame) (least : Nat), 1 ≤ f.len.val → minLenOf s.cfg.angleErrBytes f.data.d0 = some least →
    f.len.val < least → decodeRx (takeFrame f s) = .next { takeFrame f s with pr := .skipped }

/-- 45_resp_decoder.md R176: for every code with a name list of N entries, indices 0 to N - 1 are named and indices N to
255 are `Unknown`; the raw index is kept in both cases. -/
def Obligations.StatusLookupNeverLeavesTheList : Prop :=
  ∀ (s : State) (f : Frame) (names : List StatusWord), 3 ≤ f.len.val → namesOf f.data.d0 = some names →
    ∃ name, decodeRx (takeFrame f s) = .next { takeFrame f s with pr := .status f.data.d0 f.data.d1 name } ∧
      (∀ h : f.data.d1.toNat < names.length, name = .named names[f.data.d1.toNat]) ∧
      (names.length ≤ f.data.d1.toNat → name = .unknown)

/-- 45_resp_decoder.md R183: the decoder is total and changes nothing but its value: from every state it answers a next
state. -/
def Obligations.DecoderIsTotal : Prop :=
  ∀ s : State, ∃ r : ParsedResponse, decodeRx s = .next { s with pr := r }

/-- 60_exceptions.md R260, R267, 45_resp_decoder.md R183: no instruction faults, from any state; the faults of the model
stand for uses of the memory primitives that no instruction makes (entry 9). -/
def Obligations.NoInstructionFaults : Prop :=
  ∀ (i : Instr) (s : State), isFault (exec i s) = false

/-- 70_reset_and_hazards.md R302: the value depends on the frame and the configuration only: not on what was sent, received
or decoded before. The spec marks the rule as derived from R20 and R29. -/
def Obligations.DecoderSeesTheFrameOnly : Prop :=
  ∀ (s s' : State) (f : Frame), s.cfg = s'.cfg →
    ∃ r : ParsedResponse, decodeRx (takeFrame f s) = .next { takeFrame f s with pr := r } ∧
      decodeRx (takeFrame f s') = .next { takeFrame f s' with pr := r }

/-- 45_resp_decoder.md R181, R183: two frames that agree on the length and on the lanes below it decode alike, whatever
their identifiers and their lanes at the length and above (the spec marks that consequence in R183 as derived). -/
def Obligations.IdentifierAndLanesAboveLengthAreNotRead : Prop :=
  ∀ (cfg : Config) (f g : Frame), f.len = g.len → frameBytes f = frameBytes g → decodedValue cfg f = decodedValue cfg g

/-- 45_resp_decoder.md R180, R181: for a recognised code the checksum lane and every lane above it are not examined: two
frames at least as long as the code's minimum length that agree below the checksum lane decode alike. -/
def Obligations.ChecksumLaneAndSurplusAreNotExamined : Prop :=
  ∀ (cfg : Config) (f g : Frame) (least : Nat), minLenOf cfg.angleErrBytes f.data.d0 = some least →
    least ≤ f.len.val → least ≤ g.len.val → (frameBytes f).take (least - 1) = (frameBytes g).take (least - 1) →
    decodedValue cfg f = decodedValue cfg g

/-- 60_exceptions.md R266: the order in which the outcomes of a decode are decided. -/
def Obligations.DecodeOutcomesAreDecidedInOrder : Prop :=
  ∀ (cfg : Config) (f : Frame), ∃ r : ParsedResponse, decodedValue cfg f = some r ∧
    abnormalParse r =
      if f.len.val = 0 then some .eB
      else
        match minLenOf cfg.angleErrBytes f.data.d0 with
        | none => some .eC
        | some least =>
          if f.len.val < least then some .eB
          else
            match namesOf f.data.d0 with
            | none => none
            | some names => if f.data.d1.toNat < names.length then none else some .eD

/-- 45_resp_decoder.md R174, 00_scope.md R10: the sign extension of a field of 16, 32 or 48 bits is the integer its pattern
denotes, congruent to the pattern, and the 64-bit form with the higher bits ORed in denotes the same integer. -/
def Obligations.SignExtensionIsTwosComplement : Prop :=
  ∀ (w : SignedWidth) (u : Nat), u < 2 ^ (8 * widthBytes w) →
    -2 ^ (8 * widthBytes w - 1) ≤ sext (8 * widthBytes w) u ∧
    sext (8 * widthBytes w) u < 2 ^ (8 * widthBytes w - 1) ∧
    (sext (8 * widthBytes w) u - u) % 2 ^ (8 * widthBytes w) = 0 ∧
    (sext64 (8 * widthBytes w) u).toInt = sext (8 * widthBytes w) u

/-- 45_resp_decoder.md R175: the degrees are exactly `ticks * 360 / 51200`, and the numerator of a field of at most 48
bits fits the 64-bit port. -/
def Obligations.DegreesAreExact : Prop :=
  (∀ ticks : Int, (degNum ticks : ℚ) / (degDen : ℚ) = (ticks : ℚ) * 360 / 51200) ∧
  (∀ ticks : Int, -2 ^ 47 ≤ ticks → ticks < 2 ^ 47 → (BitVec.ofInt 64 (degNum ticks)).toInt = degNum ticks) ∧
  (degNum 512 : ℚ) / (degDen : ℚ) = 36 / 10

/-- 30_encoding.md R73, 45_resp_decoder.md R174: a signed value put big-endian into a response frame is the value decoded,
for every signed code, whatever the identifier and the checksum byte. -/
def Obligations.SignedFieldsRoundTrip : Prop :=
  ∀ (cfg : Config) (id : Ident) (c : Byte) (x : BitVec 16) (y : BitVec 32) (z : BitVec 48),
    decodedValue cfg (frameOf id ([0x32] ++ be 2 x.toNat ++ [c])) = some (.signed 0x32 .w16 x.toInt) ∧
    decodedValue cfg (frameOf id ([0x33] ++ be 4 y.toNat ++ [c])) = some (.signed 0x33 .w32 y.toInt) ∧
    decodedValue cfg (frameOf id ([0x31] ++ be 6 z.toNat ++ [c])) = some (.signed 0x31 .w48 z.toInt) ∧
    decodedValue cfg (frameOf id ([0x35] ++ be 6 z.toNat ++ [c])) = some (.signed 0x35 .w48 z.toInt) ∧
    decodedValue cfg (frameOf id ([0x30] ++ be 4 y.toNat ++ be 2 x.toNat ++ [c])) =
      some (.encCarry 0x30 y.toInt x)

/-- 10_state.md R27: the 64-bit value port of a signed field is the field's pattern with its sign bit replicated, and the
ports of the kinds `Skipped`, `StatusByte` and `Status` are as the binding says. -/
def Obligations.OutputPortsFollowTheBinding : Prop :=
  (∀ (code : Byte) (w : SignedWidth) (u : Nat), u < 2 ^ (8 * widthBytes w) →
    prPorts (.signed code w (sext (8 * widthBytes w) u)) = { PrPorts.zero with
      kind := 3, code := code, value := sext64 (8 * widthBytes w) u, width := BitVec.ofNat 6 (8 * widthBytes w) }) ∧
  prPorts .skipped = PrPorts.zero ∧
  (∀ code b : Byte, prPorts (.statusByte code b) = { PrPorts.zero with kind := 5, code := code, byte := b }) ∧
  (∀ (code i : Byte) (n : StatusWord),
    prPorts (.status code i (.named n)) = { PrPorts.zero with kind := 6, code := code, byte := i, named := 1 } ∧
    prPorts (.status code i .unknown) = { PrPorts.zero with kind := 6, code := code, byte := i })

/-! Decoding and encoding. -/

/-- 10_state.md R26, the one conforming port binding (entry 7): decode and encode agree on the ports: the command asked for by the port values of a command is that
command, with every operand at every value; the port values are well formed. -/
def Obligations.DecodeOfEncodedPortsIsTheCommand : Prop :=
  ∀ (i : Instr) (p : EncPorts), encodePorts i = some p → p.wellFormed = true ∧ decodeCommand p = .ok i

/-- 10_state.md R26: an index of 0 to 39 always selects a command, whose port values are the ports given with the bits of
`enc_arg` above the operands cleared; an index of 40 to 63 selects none and both encode calls are refused. -/
def Obligations.PortIndexSelectsACommandOrIsRefused : Prop :=
  ∀ p : EncPorts,
    (p.wellFormed = true → ∃ i, decodeCommand p = .ok i ∧
      encodePorts i = some ⟨p.op, p.id, (p.arg.setWidth (argBits p.op.toNat)).setWidth 56⟩) ∧
    (p.wellFormed = false → ∀ (s : State) (rest : List Call) (T : Handle),
      step { s with calls := .encodeAndSend T p :: rest } = .refused (.noSuchCommand p.op) ∧
      step { s with calls := .encode p :: rest } = .refused (.noSuchCommand p.op))

/-- 30_encoding.md R76: the frame data of an instruction, read back by the rows of the table, is the instruction
but for what the frame does not carry: the identifier above its low byte, the speed above its low 12 bits in a packed
pair, and the name of a move all of whose fields but the acceleration are zero. The reading is the model's choice
(entries 11, 12). -/
def Obligations.FrameDataReadsBack : Prop :=
  ∀ i : Instr, i.wellFormed = true → decodeFrame (encode i) = .ok (frameReading i)

/-- 45_resp_decoder.md R172: the dispatch: 35 codes, pairwise distinct, each with a branch of its own whose lane 0 it is;
every other code, and no listed one, goes to the fallback; and a received frame of at least one byte is decoded by the
branch of its lane 0, whatever the rest of it. -/
def Obligations.DispatchIsExact : Prop :=
  responseCodes.length = 35 ∧ responseCodes.Nodup ∧
  (∀ b : Byte, (dispatch b).wellFormed = true ∧ encode (dispatch b) = [b]) ∧
  (∀ b : Byte, dispatch b = .respOther b ↔ b ∉ responseCodes) ∧
  (∀ b c : Byte, dispatch b = dispatch c → b = c) ∧
  ∀ (s : State) (f : Frame), 1 ≤ f.len.val →
    decodeRx (takeFrame f s) = exec (dispatch f.data.d0) (takeFrame f s)

/-- 30_encoding.md R82: a line of the textual syntax that a command is written as is assembled to that command. -/
def Obligations.AssembledLineIsTheCommand : Prop :=
  ∀ (i : Instr) (l : AsmLine), disassemble i = some l → assemble l = some i

/-- 95_test_vectors.md S1 and its neighbours: a few words written out from the spec's encodings decode to the instructions
they stand for. The reading is the model's choice: 30_encoding.md R84 makes no command frame a decoding key, so that
`80 00 81`, a frame of `RESP_80` too, is read as `CALIBRATE` is the tie rule of entry 11, as is the numbering of a word;
that a command read from its word has an identifier with zero upper bits, here `0x01`, is entry 12. -/
def Obligations.SampleWordsDecode : Prop :=
  decodeTableWord 16 0x3031 = some (.rdEncCarry 0x01) ∧
  decodeTableWord 32 0x8301F479 = some (.setCurrent 0x01 500) ∧
  decodeTableWord 64 0x900001012C0100C0 = some (.setHome 0x01 0 1 300 1 0) ∧
  decodeTableWord 40 0xF6825802D3 = some (.speed 0x01 1 600 2) ∧
  decodeTableWord 64 0xFE025802FFF380CD = some (.moveAbs 0x01 600 2 (BitVec.ofInt 24 (-3200))) ∧
  decodeTableWord 24 0x800081 = some (.calibrate 0x01) ∧
  decodeTableWord 64 0x31000012345678FF = some .resp31 ∧
  decodeTableWord 24 0x3A003B = some .resp3A ∧
  decodeTableWord 8 0x50 = some (.respOther 0x50)

/-! One step, and what every step keeps. -/

/-- 47_transport_drain.md R243, 45_resp_decoder.md R172: a step runs the decoded instruction. For an encode-and-send it is
`exec` of the command on the ports with the call's handle as the operation's argument; for a decode, `exec` of the row of lane 0 on the frame taken into RX, after which the
value is returned; for a drain, the same on the frame its Transport delivers, after which the value is reported to its
sink. That a step is one
call of the caller, or one iteration of a drain, is the model's choice (entries 1, 14, 16). -/
def Obligations.StepRunsTheDecodedInstruction : Prop :=
  ∀ (s : State) (rest : List Call),
    (∀ (T : Handle) (p : EncPorts) (i : Instr), s.calls = .encodeAndSend T p :: rest → decodeCommand p = .ok i →
      step s = exec i { s with calls := rest, handle := T }) ∧
    (∀ (p : RxPorts) (f : Frame), s.calls = .decode p :: rest → portFrame p = some f → 1 ≤ f.len.val →
      step s = mapNext (exec (dispatch f.data.d0) (takeFrame f { s with calls := rest })) returnParsed) ∧
    (∀ (T : Handle) (sink : Sink) (f : Frame), s.calls = .drain T sink :: rest → (transportOf s T).opened = true →
      receiveAnswer T s = some f → 1 ≤ f.len.val →
      step s = mapNext (exec (dispatch f.data.d0) (takeFrame f (pollTransport T s))) (reportParsed sink))

/-- 10_state.md R20, R25, R29, 70_reset_and_hazards.md R290: between transactions `CORE` holds nothing: a step from a state
with no frame in TX or RX, no value and no handle leaves none. That these objects are fields at all is the model's choice
(entries 1, 17, 24). -/
def Obligations.EveryStepLeavesCoreEmpty : Prop :=
  ∀ s t : State, Idle s → step s = .next t → Idle t

/-- 20_memory.md R40: every step keeps both buffers in canonical form and the Transports listed with rising handles, and so
does every instruction. The forms are the model's choice (entries 8, 24). -/
def Obligations.BuffersStayCanonical : Prop :=
  (∀ s t : State, Canonical s → step s = .next t → Canonical t) ∧
  (∀ (i : Instr) (s t : State), Canonical s → exec i s = .next t → Canonical t)

/-- 70_reset_and_hazards.md R290, 10_state.md R31: after reset no frame is pending and no value stands; both buffers are in
canonical form; `ANGLE_ERR_BYTES` has its default (entry 4). The values are those of the model's fields (entry 3). -/
def Obligations.ResetHoldsNothing : Prop :=
  Idle State.reset ∧ Canonical State.reset ∧ State.reset.cfg.angleErrBytes = .four

/-- 10_state.md R25, R28, 47_transport_drain.md R242, R243, R249: over every step the configuration stays; a connection
changes only by `open` of it; what was sent, polled, returned and reported is only added to; at most one frame is sent, and
only by an encode-and-send; only a drain polls or reports, to its own sink. The fields are the model's (entry 1). -/
def Obligations.StepsOnlyAddToTheBoundary : Prop :=
  ∀ s t : State, step s = .next t →
    t.cfg = s.cfg ∧
    (∀ T : Handle, s.calls.head? ≠ some (.openTransport T) → (transportOf t T).opened = (transportOf s T).opened) ∧
    s.returned <+: t.returned ∧
    (t.sent = s.sent ∨ ∃ T p f, s.calls.head? = some (.encodeAndSend T p) ∧
      t.sent = s.sent ++ [⟨T, f, s.cfg.sendTimeoutMs⟩]) ∧
    ((t.polled = s.polled ∧ t.reports = s.reports) ∨
      ∃ T sink, s.calls.head? = some (.drain T sink) ∧ t.polled = s.polled ++ [⟨T, s.cfg.recvTimeoutMs⟩] ∧
        (t.reports = s.reports ∨ ∃ r, r ≠ .skipped ∧ t.reports = s.reports ++ [⟨sink, r⟩]))

/-- 47_transport_drain.md R246, R249: a drain of a Transport's frames followed by a `false` decodes every frame delivered, in
order, reports each value but `Skipped` to its sink, makes one `receive` more than there are frames, and then returns. One iteration is one step, the model's choice (entry
14). -/
def Obligations.DrainReportsEveryFrameInOrder : Prop :=
  ∀ (fs : List Frame) (s : State) (T : Handle) (sink : Sink) (rest : List Call) (later : List (Option Frame)),
    Idle s → (transportOf s T).opened = true → s.calls = .drain T sink :: rest →
    (transportOf s T).deliveries = fs.map some ++ none :: later →
    Host.Core.run Sys2Proof.core (fs.length + 1) s = .next { s with
      calls := rest
      transports := setTransport s.transports T { transportOf s T with deliveries := later }
      oracleIndex := s.oracleIndex + (fs.length + 1)
      polled := s.polled ++ List.replicate (fs.length + 1) ⟨T, s.cfg.recvTimeoutMs⟩
      returned := s.returned ++ [.drained]
      reports := s.reports ++ (reportsOf s.cfg fs).map (Report.mk sink) }

/-- 47_transport_drain.md R242, R248, 40_checksum.md R90: what the other operations of the host return: `open` the
Transport's answer, which becomes the connection; `cksum` the checksum; `encode` the frame of the table, without a
`send`; `decode` the value of the frame. What a second `open` does is the model's choice (entry 15). -/
def Obligations.HostOperationsReturnTheirResult : Prop :=
  ∀ (s : State) (rest : List Call),
    (∀ T : Handle, step { s with calls := .openTransport T :: rest } = .next { s with
      calls := rest
      transports := setTransport s.transports T { transportOf s T with
        opened := openAnswer T s, openAnswers := (transportOf s T).openAnswers.tail }
      oracleIndex := s.oracleIndex + 1
      returned := s.returned ++ [.openResult (openAnswer T s)] }) ∧
    (∀ (id : Ident) (bytes : List Byte), step { s with calls := .cksum id bytes :: rest } = .next { s with
      calls := rest, returned := s.returned ++ [.checksum (cksum id bytes)] }) ∧
    (∀ (i : Instr) (p : EncPorts), encodePorts i = some p → step { s with calls := .encode p :: rest } = .next { s with
      calls := rest, returned := s.returned ++ [.frame (frameOf p.id (encode i))] }) ∧
    (∀ (f : Frame) (p : RxPorts) (r : ParsedResponse), portFrame p = some f → decodedValue s.cfg f = some r → Idle s →
      step { s with calls := .decode p :: rest } = .next { s with
        calls := rest, returned := s.returned ++ [.parsed r] })

/-- 10_state.md R27: a received length of 9 to 15 on the ports is outside the frame type and is refused, and a length of 0 to 8 is decoded. -/
def Obligations.ReceivedLengthAboveEightIsRefused : Prop :=
  ∀ (s : State) (rest : List Call) (p : RxPorts),
    (p.wellFormed = false → step { s with calls := .decode p :: rest } = .refused (.frameTooLong p.len)) ∧
    (p.wellFormed = true → isNext (step { s with calls := .decode p :: rest }) = true)

/-- 10_state.md R25, 60_exceptions.md R273, 47_transport_drain.md R243, R246: a Transport is used only through the handle a
call is passed: a step leaves every other Transport as it was, and a call that is passed none leaves all; and a Transport is
changed by taking one of its own answers, whatever the others hold. The fields are the model's (entries 1, 24). -/
def Obligations.OnlyThePassedTransportIsUsed : Prop :=
  ∀ s t : State, step s = .next t → ∀ T : Handle,
    ((s.calls.head?.bind handleOf) ≠ some T → transportOf t T = transportOf s T) ∧
    (∀ p, s.calls.head? = some (.encodeAndSend T p) →
      transportOf t T = { transportOf s T with sendAnswers := (transportOf s T).sendAnswers.tail }) ∧
    (∀ sink, s.calls.head? = some (.drain T sink) →
      transportOf t T = { transportOf s T with deliveries := (transportOf s T).deliveries.tail }) ∧
    (s.calls.head? = some (.openTransport T) →
      (transportOf t T).sendAnswers = (transportOf s T).sendAnswers ∧
      (transportOf t T).deliveries = (transportOf s T).deliveries ∧
      (transportOf t T).openAnswers = (transportOf s T).openAnswers.tail ∧
      t.returned = s.returned ++ [.openResult (transportOf t T).opened])
end

