-- ==== Sys2Proof/Laws/Memory.lean ====
section
/-! SUPPORT. What the lane operations of a buffer do: a read after a write, and the canonical form. -/

namespace Sys2Proof.Laws

open Sys2Proof.Machine

theorem wfFrom_mono {f g : Nat} {m : Memory} (hfg : f ≤ g) (h : Memory.wfFrom g m = true) :
    Memory.wfFrom f m = true := by
  cases m with
  | nil => rfl
  | cons e rest =>
    simp only [Memory.wfFrom, Bool.and_eq_true, decide_eq_true_eq] at h ⊢
    exact ⟨⟨⟨by omega, h.1.1.2⟩, h.1.2⟩, h.2⟩

/-- A lane below every entry is unlisted. -/
theorem readLane_below {f k : Nat} {m : Memory} (h : Memory.wfFrom f m = true) (hk : k < f) :
    readLane m k = unlistedByte := by
  induction m generalizing f with
  | nil => rfl
  | cons e rest ih =>
    obtain ⟨j, b⟩ := e
    simp only [Memory.wfFrom, Bool.and_eq_true, decide_eq_true_eq] at h
    have hj : j ≠ k := by omega
    simp only [readLane, if_neg hj]
    exact ih h.2 (by omega)

/-- A write keeps the canonical form. -/
theorem setLane_wfFrom {f k : Nat} {m : Memory} {b : Byte} (h : Memory.wfFrom f m = true) (hf : f ≤ k)
    (hk : k < 8) : Memory.wfFrom f (setLane m k b) = true := by
  induction m generalizing f with
  | nil => by_cases hb : b = unlistedByte <;> simp [setLane, Memory.wfFrom, hb, hf, hk]
  | cons e rest ih =>
    obtain ⟨j, c⟩ := e
    simp only [Memory.wfFrom, Bool.and_eq_true, decide_eq_true_eq] at h
    obtain ⟨⟨⟨hfj, hj8⟩, hc⟩, hr⟩ := h
    rcases Nat.lt_trichotomy k j with hkj | hkj | hkj
    · by_cases hb : b = unlistedByte
      · simp [setLane, hkj, hb, Memory.wfFrom, hfj, hj8, hc, hr]
      · simp [setLane, hkj, hb, Memory.wfFrom, hf, hk, hj8, hc, hr, Nat.succ_le_of_lt hkj]
    · subst hkj
      by_cases hb : b = unlistedByte
      · simp only [setLane, lt_irrefl, if_false, if_true, hb]
        exact wfFrom_mono (by omega) hr
      · simp [setLane, hb, Memory.wfFrom, hf, hk, hr]
    · have h1 : ¬ k < j := by omega
      have h2 : k ≠ j := by omega
      simp only [setLane, if_neg h1, if_neg h2, Memory.wfFrom, Bool.and_eq_true, decide_eq_true_eq]
      exact ⟨⟨⟨hfj, hj8⟩, hc⟩, ih hr (by omega)⟩

/-- A read after a write: the lane written reads the byte, every other lane reads as before. -/
theorem readLane_setLane {f k j : Nat} {m : Memory} {b : Byte} (h : Memory.wfFrom f m = true) :
    readLane (setLane m k b) j = if j = k then b else readLane m j := by
  induction m generalizing f with
  | nil =>
    by_cases hb : b = unlistedByte
    · simp [setLane, hb, readLane]
    · by_cases hjk : j = k
      · subst hjk; simp [setLane, hb, readLane]
      · simp [setLane, hb, readLane, hjk, Ne.symm hjk]
  | cons e rest ih =>
    obtain ⟨i, c⟩ := e
    simp only [Memory.wfFrom, Bool.and_eq_true, decide_eq_true_eq] at h
    obtain ⟨⟨⟨_, _⟩, _⟩, hr⟩ := h
    rcases Nat.lt_trichotomy k i with hki | hki | hki
    · by_cases hjk : j = k
      · subst hjk
        have hji : i ≠ j := by omega
        by_cases hb : b = unlistedByte
        · simp [setLane, hki, hb, readLane, hji, readLane_below hr (show j < i + 1 by omega)]
        · simp [setLane, hki, hb, readLane]
      · by_cases hb : b = unlistedByte
        · simp [setLane, hki, hb, hjk]
        · simp [setLane, hki, hb, readLane, hjk, Ne.symm hjk]
    · subst hki
      by_cases hjk : j = k
      · subst hjk
        by_cases hb : b = unlistedByte
        · simp [setLane, hb, readLane_below hr (show j < j + 1 by omega)]
        · simp [setLane, hb, readLane]
      · by_cases hb : b = unlistedByte
        · simp [setLane, hb, readLane, hjk, Ne.symm hjk]
        · simp [setLane, hb, readLane, hjk, Ne.symm hjk]
    · have h1 : ¬ k < i := by omega
      have h2 : k ≠ i := by omega
      by_cases hij : i = j
      · subst hij; simp [setLane, h1, h2, readLane, Ne.symm h2]
      · simp only [setLane, if_neg h1, if_neg h2, readLane, if_neg hij]
        exact ih hr

/-- Consecutive writes keep the canonical form. -/
theorem setLanes_wf {k : Nat} {m : Memory} {bs : List Byte} (h : m.wf = true) (hk : k + bs.length ≤ 8) :
    (setLanes m k bs).wf = true := by
  induction bs generalizing m k with
  | nil => exact h
  | cons b rest ih =>
    simp only [List.length_cons] at hk
    exact ih (setLane_wfFrom h (Nat.zero_le k) (by omega)) (by omega)

/-- A read after consecutive writes. -/
theorem readLane_setLanes {k j : Nat} {m : Memory} {bs : List Byte} (h : m.wf = true) (hk : k + bs.length ≤ 8) :
    readLane (setLanes m k bs) j = if k ≤ j ∧ j < k + bs.length then bs.getD (j - k) 0 else readLane m j := by
  induction bs generalizing m k with
  | nil => simp only [setLanes, List.length_nil]; rw [if_neg (by omega)]
  | cons b rest ih =>
    simp only [List.length_cons] at hk ⊢
    simp only [setLanes]
    rw [ih (setLane_wfFrom h (Nat.zero_le k) (by omega)) (by omega), readLane_setLane h]
    rcases Nat.lt_trichotomy j k with hjk | hjk | hjk
    · rw [if_neg (by omega), if_neg (by omega), if_neg (by omega)]
    · subst hjk; rw [if_neg (by omega), if_pos rfl, if_pos (by omega)]; simp
    · by_cases hj : j < k + 1 + rest.length
      · rw [if_pos (by omega), if_pos (by omega)]
        obtain ⟨d, rfl⟩ : ∃ d, j = k + 1 + d := ⟨j - (k + 1), by omega⟩
        have e1 : k + 1 + d - k = d + 1 := by omega
        have e2 : k + 1 + d - (k + 1) = d := by omega
        rw [e1, e2, List.getD_cons_succ]
      · rw [if_neg (by omega), if_neg (by omega), if_neg (by omega)]

@[simp] theorem wf_nil : Memory.wf [] = true := rfl

/-- `MemWrite` answers exactly when the field lies inside the eight lanes. -/
theorem memWrite_ok {m : Memory} {addr : Nat} {bs : List Byte} (h : addr + bs.length ≤ 8) :
    memWrite m addr bs = .ok (setLanes m addr bs) := by simp [memWrite, h]

/-- Bytes written to an empty memory read back. -/
theorem readLanes_setLanes {bs : List Byte} (h : bs.length ≤ 8) :
    readLanes (setLanes [] 0 bs) 0 bs.length = bs := by
  apply List.ext_getElem
  · simp [readLanes]
  · intro i h1 h2
    simp only [readLanes, List.getElem_map, List.getElem_range]
    rw [readLane_setLanes wf_nil (by omega)]
    rw [if_pos (by omega)]
    simp [List.getD_eq_getElem?_getD, h2]

/-- The first `n` bytes of eight written lanes. -/
theorem readLanes_bufferOf (f : Frame) {k n : Nat} (h : k + n ≤ 8) :
    readLanes (bufferOf f).mem k n = ((laneList f.data).drop k).take n := by
  apply List.ext_getElem
  · simp [readLanes, laneList]; omega
  · intro i h1 h2
    simp only [readLanes, List.length_map, List.length_range] at h1
    simp only [readLanes, List.getElem_map, List.getElem_range, bufferOf]
    have hl : (laneList f.data).length = 8 := rfl
    rw [readLane_setLanes wf_nil (by omega), if_pos (by omega)]
    have hb : k + i < (laneList f.data).length := by omega
    simp [List.getD_eq_getElem?_getD, List.getElem?_eq_getElem hb]

/-- The receive buffer of a frame is in canonical form. -/
theorem bufferOf_wf (f : Frame) : (bufferOf f).mem.wf = true :=
  setLanes_wf wf_nil (by simp [laneList])

end Sys2Proof.Laws
end

