-- ==== Sys2Proof/Laws/Decoder.lean ====
section
/-! SUPPORT. What the branches of the decoder answer. -/

namespace Sys2Proof.Laws

open Sys2Proof.Machine

/-- `MemRead` answers exactly when the field lies below the received length (00_scope.md R11). -/
theorem memRead_ok {rx : Buffer} {addr n : Nat} (h : addr + n ≤ rx.len.val) :
    memRead rx addr n = .ok (ube (readLanes rx.mem addr n)) := by simp [memRead, h]

theorem readSigned_ok {rx : Buffer} {addr n : Nat} (h : addr + n ≤ rx.len.val) :
    readSigned rx addr n = .ok (sext (8 * n) (ube (readLanes rx.mem addr n))) := by
  simp [readSigned, memRead_ok h]

theorem readByte_ok {rx : Buffer} {addr : Nat} (h : addr + 1 ≤ rx.len.val) :
    readByte rx addr = .ok (readLane rx.mem addr) := by
  simp [readByte, memRead_ok h, readLanes, ube]

/-- A short frame is skipped (45_resp_decoder.md R173). -/
theorem branch_short {n : Nat} {read : Buffer → Except Fault ParsedResponse} {s : State}
    (h : s.rx.len.val < n + 2) : branch n read s = .next { s with pr := .skipped } := by
  have : longEnough s.rx n = false := by simp [longEnough, minLen]; omega
  simp [branch, this, yieldParse]

/-- A frame that is long enough is read (45_resp_decoder.md R173). -/
theorem branch_long {n : Nat} {read : Buffer → Except Fault ParsedResponse} {s : State} {r : ParsedResponse}
    (h : n + 2 ≤ s.rx.len.val) (hr : read s.rx = .ok r) : branch n read s = .next { s with pr := r } := by
  have : longEnough s.rx n = true := by simp [longEnough, minLen]; omega
  simp [branch, this, hr, yieldParse]

theorem branchSigned_long {code : Byte} {w : SignedWidth} {s : State} (h : widthBytes w + 2 ≤ s.rx.len.val) :
    branchSigned code w s = .next { s with
      pr := .signed code w (sext (8 * widthBytes w) (ube (readLanes s.rx.mem 1 (widthBytes w)))) } :=
  branch_long h (by simp [readSigned_ok (show 1 + widthBytes w ≤ s.rx.len.val by omega)])

theorem branchEncCarry_long {code : Byte} {s : State} (h : 8 ≤ s.rx.len.val) :
    branchEncCarry code s = .next { s with
      pr := .encCarry code (sext 32 (ube (readLanes s.rx.mem 1 4)))
        (BitVec.ofNat 16 (ube (readLanes s.rx.mem 5 2))) } :=
  branch_long h (by simp [readSigned_ok (show 1 + 4 ≤ s.rx.len.val by omega),
    memRead_ok (show 5 + 2 ≤ s.rx.len.val by omega)])

theorem branchAngle_long {code : Byte} {s : State} (h : angleBytes s.cfg.angleErrBytes + 2 ≤ s.rx.len.val) :
    branchAngle code s = .next { s with
      pr := .angleErr code
        (sext (8 * angleBytes s.cfg.angleErrBytes) (ube (readLanes s.rx.mem 1 (angleBytes s.cfg.angleErrBytes))))
        (degNum (sext (8 * angleBytes s.cfg.angleErrBytes)
          (ube (readLanes s.rx.mem 1 (angleBytes s.cfg.angleErrBytes))))) } :=
  branch_long h (by
    simp [readSigned_ok (show 1 + angleBytes s.cfg.angleErrBytes ≤ s.rx.len.val by omega)])

theorem branchByte_long {code : Byte} {s : State} (h : 3 ≤ s.rx.len.val) :
    branchByte code s = .next { s with pr := .statusByte code (readLane s.rx.mem 1) } :=
  branch_long h (by simp [readByte_ok (show 1 + 1 ≤ s.rx.len.val by omega)])

theorem branchStatus_long {code : Byte} {names : List StatusWord} {s : State} (h : 3 ≤ s.rx.len.val) :
    branchStatus code names s = .next { s with
      pr := .status code (readLane s.rx.mem 1) (statusName names (readLane s.rx.mem 1)) } :=
  branch_long h (by simp [readByte_ok (show 1 + 1 ≤ s.rx.len.val by omega)])

theorem branchRaw_nonempty {s : State} (h : 1 ≤ s.rx.len.val) :
    branchRaw s = .next { s with pr := .rawDump (readLanes s.rx.mem 0 s.rx.len.val) } := by
  simp [branchRaw, show s.rx.len.val ≠ 0 by omega, yieldParse]

/-- The name of an index inside the list, and `Unknown` beyond it (45_resp_decoder.md R176). -/
theorem statusName_eq (names : List StatusWord) (i : Byte) :
    statusName names i = if h : i.toNat < names.length then .named names[i.toNat] else .unknown := by
  unfold statusName
  by_cases h : i.toNat < names.length
  · simp [h]
  · simp [h]

/-- A branch with a read that stays below its minimum length always answers a next state that differs in the value
only (45_resp_decoder.md R183). -/
theorem branch_total {n : Nat} {read : Buffer → Except Fault ParsedResponse} {s : State}
    (h : n + 2 ≤ s.rx.len.val → ∃ r, read s.rx = .ok r) : ∃ r, branch n read s = .next { s with pr := r } := by
  by_cases hl : n + 2 ≤ s.rx.len.val
  · obtain ⟨r, hr⟩ := h hl
    exact ⟨r, branch_long hl hr⟩
  · exact ⟨_, branch_short (by omega)⟩

theorem branchSigned_total (code : Byte) (w : SignedWidth) (s : State) :
    ∃ r, branchSigned code w s = .next { s with pr := r } :=
  branch_total fun h => ⟨_, by simp [readSigned_ok (show 1 + widthBytes w ≤ s.rx.len.val by omega)]; rfl⟩

theorem branchEncCarry_total (code : Byte) (s : State) : ∃ r, branchEncCarry code s = .next { s with pr := r } :=
  branch_total fun h => ⟨_, by
    simp [readSigned_ok (show 1 + 4 ≤ s.rx.len.val by omega), memRead_ok (show 5 + 2 ≤ s.rx.len.val by omega)]; rfl⟩

theorem branchAngle_total (code : Byte) (s : State) : ∃ r, branchAngle code s = .next { s with pr := r } :=
  branch_total fun h => ⟨_, by
    simp [readSigned_ok (show 1 + angleBytes s.cfg.angleErrBytes ≤ s.rx.len.val by omega)]; rfl⟩

theorem branchByte_total (code : Byte) (s : State) : ∃ r, branchByte code s = .next { s with pr := r } :=
  branch_total fun h => ⟨_, by simp [readByte_ok (show 1 + 1 ≤ s.rx.len.val by omega)]; rfl⟩

theorem branchStatus_total (code : Byte) (names : List StatusWord) (s : State) :
    ∃ r, branchStatus code names s = .next { s with pr := r } :=
  branch_total fun h => ⟨_, by simp [readByte_ok (show 1 + 1 ≤ s.rx.len.val by omega)]; rfl⟩

theorem branchRaw_total (s : State) : ∃ r, branchRaw s = .next { s with pr := r } := by
  unfold branchRaw; split <;> exact ⟨_, rfl⟩

end Sys2Proof.Laws
end

