-- ==== Sys2Proof/Laws/Encoder.lean ====
section
/-! SUPPORT. What the encoder's shared operations answer: the frame formed, and encode-and-send. -/

namespace Sys2Proof.Laws

open Sys2Proof.Machine

/-- The append rule (40_checksum.md R92): for a raw payload of at most 7 bytes the buffer formed is canonical, and as
a frame it is the payload followed by its checksum. -/
theorem formFrame_ok (id : Ident) {P : List Byte} (h : P.length ≤ 7) :
    ∃ b, formFrame id P = .ok b ∧ b.mem.wf = true ∧ frameIn b = frameOf id (P ++ [cksum id P]) := by
  have hP : P.length ≤ 8 := by omega
  have hw : (setLanes [] 0 P).wf = true := setLanes_wf wf_nil (by omega)
  refine ⟨⟨id, Fin.ofNat 9 (P.length + 1), setLanes (setLanes [] 0 P) P.length [cksum id P]⟩, ?_,
    setLanes_wf (k := P.length) (bs := [cksum id P]) hw (by simp; omega), ?_⟩
  · rw [formFrame, memWrite_ok (by omega)]
    simp only
    rw [memWrite_ok (by simp; omega), readLanes_setLanes hP]
  · have key : ∀ j, readLane (setLanes (setLanes [] 0 P) P.length [cksum id P]) j
        = (P ++ [cksum id P]).getD j 0 := by
      intro j
      rw [readLane_setLanes hw (by simp; omega), readLane_setLanes wf_nil (by omega)]
      rcases Nat.lt_trichotomy j P.length with hj | hj | hj
      · rw [if_neg (by omega), if_pos (by omega)]
        simp [List.getD_eq_getElem?_getD, List.getElem?_append_left hj, hj]
      · subst hj; simp
      · rw [if_neg (by simp; omega), if_neg (by omega), List.getD_eq_default _ _ (by simp; omega)]
        rfl
    simp only [frameIn, frameOf, key, List.length_append, List.length_cons, List.length_nil]

/-- `encode_and_send` of a raw payload, the Transport passed being open (47_transport_drain.md R243): one frame handed to
its `send` with the send timeout, its answer returned, nothing retained. -/
theorem encodeAndSend_open (id : Ident) {P : List Byte} {s : State} (h : P.length ≤ 7) (ho : s.opened = true) :
    encodeAndSend id P s = .next { s with
      sent := s.sent ++ [⟨s.handle, frameOf id (P ++ [cksum id P]), s.cfg.sendTimeoutMs⟩]
      returned := s.returned ++ [.sendResult (sendAnswer s)]
      transports := setTransport s.transports s.handle (afterSendAnswer (transportOf s s.handle))
      oracleIndex := s.oracleIndex + 1
      tx := Buffer.none
      handle := 0 } := by
  obtain ⟨b, hb, _, hf⟩ := formFrame_ok id h
  simp only [encodeAndSend, ho, if_true, hb, sendFrame, hf, sendAnswer, transportOf]

/-- `encode_and_send` on a Transport that is not open has no meaning (47_transport_drain.md R242). -/
theorem encodeAndSend_closed (id : Ident) (P : List Byte) {s : State} (ho : s.opened = false) :
    encodeAndSend id P s = .refused .transportNotOpen := by simp [encodeAndSend, ho]

/-- All that `encode_and_send` can do when it answers a next state. -/
theorem encodeAndSend_next {id : Ident} {P : List Byte} {s t : State} (h : encodeAndSend id P s = .next t) :
    s.opened = true ∧ ∃ b, formFrame id P = .ok b ∧ t = sendFrame { s with tx := b } := by
  unfold encodeAndSend at h
  split at h
  · rename_i ho
    refine ⟨ho, ?_⟩
    split at h
    · cases h
    · rename_i b hb
      exact ⟨b, hb, (by injection h with h; exact h.symm)⟩
  · cases h

end Sys2Proof.Laws
end

