-- ==== Sys2Proof/Laws/Operands.lean ====
section
/-! SUPPORT. The operand bytes as bit slices, and the arithmetic of the checksum and of sign extension. -/

namespace Sys2Proof.Laws

open Sys2Proof.Machine

theorem lane_cases {i : Nat} (h : i < 8) : i = 0 ∨ i = 1 ∨ i = 2 ∨ i = 3 ∨ i = 4 ∨ i = 5 ∨ i = 6 ∨ i = 7 := by omega

/-- `hi(x) = x[15:8]` (30_encoding.md R67). -/
theorem hi_eq (x : BitVec 16) : hi x = x.extractLsb' 8 8 := by
  refine BitVec.eq_of_getLsbD_eq fun i h => ?_
  rcases lane_cases h with rfl | rfl | rfl | rfl | rfl | rfl | rfl | rfl <;> simp [hi]

/-- `lo(x) = x[7:0]` (30_encoding.md R67). -/
theorem lo_eq (x : BitVec 16) : lo x = x.extractLsb' 0 8 := by
  refine BitVec.eq_of_getLsbD_eq fun i h => ?_
  rcases lane_cases h with rfl | rfl | rfl | rfl | rfl | rfl | rfl | rfl <;> simp [lo]

/-- `b2(m) = m[23:16]` (30_encoding.md R68). -/
theorem b2_eq (m : BitVec 24) : b2 m = m.extractLsb' 16 8 := by
  refine BitVec.eq_of_getLsbD_eq fun i h => ?_
  rcases lane_cases h with rfl | rfl | rfl | rfl | rfl | rfl | rfl | rfl <;> simp [b2]

/-- `b1(m) = m[15:8]` (30_encoding.md R68). -/
theorem b1_eq (m : BitVec 24) : b1 m = m.extractLsb' 8 8 := by
  refine BitVec.eq_of_getLsbD_eq fun i h => ?_
  rcases lane_cases h with rfl | rfl | rfl | rfl | rfl | rfl | rfl | rfl <;> simp [b1]

/-- `b0(m) = m[7:0]` (30_encoding.md R68). -/
theorem b0_eq (m : BitVec 24) : b0 m = m.extractLsb' 0 8 := by
  refine BitVec.eq_of_getLsbD_eq fun i h => ?_
  rcases lane_cases h with rfl | rfl | rfl | rfl | rfl | rfl | rfl | rfl <;> simp [b0]

/-- The packed lane, bit field by bit field (30_encoding.md R69). -/
theorem pk_eq (d : BitVec 1) (s : BitVec 16) : pk d s = d ++ 0#3 ++ s.extractLsb' 8 4 := by
  refine BitVec.eq_of_getLsbD_eq fun i h => ?_
  refine Eq.trans ?_ (BitVec.getLsbD_append (x := d ++ 0#3) (y := s.extractLsb' 8 4)).symm
  rw [BitVec.getLsbD_append]
  rcases lane_cases h with rfl | rfl | rfl | rfl | rfl | rfl | rfl | rfl <;> simp [pk]

/-- The sum of a byte sequence over Mathlib's list sum. -/
theorem byteSum_eq (P : List Byte) : byteSum P = (P.map BitVec.toNat).sum := by
  induction P with
  | nil => rfl
  | cons b bs ih => simp [byteSum, ih]

/-- One more byte, least significant (00_scope.md R9). -/
theorem ube_snoc (l : List Byte) (b : Byte) : ube (l ++ [b]) = ube l * 256 + b.toNat := by simp [ube]

/-- Sign extension is the two's-complement reading of the pattern (00_scope.md R10). -/
theorem sext_eq_toInt {W u : Nat} (hW : 0 < W) (hu : u < 2 ^ W) : sext W u = (BitVec.ofNat W u).toInt := by
  unfold sext
  rw [BitVec.toInt_eq_msb_cond]
  have h : (BitVec.ofNat W u).msb = u.testBit (W - 1) := by
    rw [BitVec.msb_eq_getLsbD_last, BitVec.getLsbD_ofNat]; simp; omega
  rw [h, BitVec.toNat_ofNat, Nat.mod_eq_of_lt hu]; simp

end Sys2Proof.Laws
end

