-- ==== Sys2Proof/Laws/State.lean ====
section
/-! SUPPORT. One lemma per field of the state for each named update. -/

namespace Sys2Proof.Laws

open Sys2Proof.Machine

@[simp] theorem sendFrame_tx (s : State) : (sendFrame s).tx = Buffer.none := rfl
@[simp] theorem sendFrame_rx (s : State) : (sendFrame s).rx = s.rx := rfl
@[simp] theorem sendFrame_pr (s : State) : (sendFrame s).pr = s.pr := rfl
@[simp] theorem sendFrame_handle (s : State) : (sendFrame s).handle = 0 := rfl
@[simp] theorem sendFrame_cfg (s : State) : (sendFrame s).cfg = s.cfg := rfl
@[simp] theorem sendFrame_transports (s : State) :
    (sendFrame s).transports = setTransport s.transports s.handle (afterSendAnswer (transportOf s s.handle)) := rfl
@[simp] theorem sendFrame_oracleIndex (s : State) : (sendFrame s).oracleIndex = s.oracleIndex + 1 := rfl
@[simp] theorem sendFrame_calls (s : State) : (sendFrame s).calls = s.calls := rfl
@[simp] theorem sendFrame_sent (s : State) :
    (sendFrame s).sent = s.sent ++ [⟨s.handle, frameIn s.tx, s.cfg.sendTimeoutMs⟩] := rfl
@[simp] theorem sendFrame_polled (s : State) : (sendFrame s).polled = s.polled := rfl
@[simp] theorem sendFrame_returned (s : State) :
    (sendFrame s).returned = s.returned ++ [.sendResult (sendAnswer s)] := rfl
@[simp] theorem sendFrame_reports (s : State) : (sendFrame s).reports = s.reports := rfl

@[simp] theorem afterSend_tx (s : State) (id : Ident) (data : List Byte) :
    (afterSend s id data).tx = Buffer.none := rfl
@[simp] theorem afterSend_rx (s : State) (id : Ident) (data : List Byte) : (afterSend s id data).rx = s.rx := rfl
@[simp] theorem afterSend_pr (s : State) (id : Ident) (data : List Byte) : (afterSend s id data).pr = s.pr := rfl
@[simp] theorem afterSend_handle (s : State) (id : Ident) (data : List Byte) : (afterSend s id data).handle = 0 := rfl
@[simp] theorem afterSend_cfg (s : State) (id : Ident) (data : List Byte) : (afterSend s id data).cfg = s.cfg := rfl
@[simp] theorem afterSend_transports (s : State) (id : Ident) (data : List Byte) :
    (afterSend s id data).transports =
      setTransport s.transports s.handle (afterSendAnswer (transportOf s s.handle)) := rfl
@[simp] theorem afterSend_oracleIndex (s : State) (id : Ident) (data : List Byte) :
    (afterSend s id data).oracleIndex = s.oracleIndex + 1 := rfl
@[simp] theorem afterSend_calls (s : State) (id : Ident) (data : List Byte) :
    (afterSend s id data).calls = s.calls := rfl
@[simp] theorem afterSend_sent (s : State) (id : Ident) (data : List Byte) :
    (afterSend s id data).sent = s.sent ++ [⟨s.handle, frameOf id data, s.cfg.sendTimeoutMs⟩] := rfl
@[simp] theorem afterSend_polled (s : State) (id : Ident) (data : List Byte) :
    (afterSend s id data).polled = s.polled := rfl
@[simp] theorem afterSend_returned (s : State) (id : Ident) (data : List Byte) :
    (afterSend s id data).returned = s.returned ++ [.sendResult (sendAnswer s)] := rfl
@[simp] theorem afterSend_reports (s : State) (id : Ident) (data : List Byte) :
    (afterSend s id data).reports = s.reports := rfl

@[simp] theorem takeFrame_tx (f : Frame) (s : State) : (takeFrame f s).tx = s.tx := rfl
@[simp] theorem takeFrame_rx (f : Frame) (s : State) : (takeFrame f s).rx = bufferOf f := rfl
@[simp] theorem takeFrame_pr (f : Frame) (s : State) : (takeFrame f s).pr = s.pr := rfl
@[simp] theorem takeFrame_handle (f : Frame) (s : State) : (takeFrame f s).handle = s.handle := rfl
@[simp] theorem takeFrame_cfg (f : Frame) (s : State) : (takeFrame f s).cfg = s.cfg := rfl
@[simp] theorem takeFrame_transports (f : Frame) (s : State) : (takeFrame f s).transports = s.transports := rfl
@[simp] theorem takeFrame_oracleIndex (f : Frame) (s : State) : (takeFrame f s).oracleIndex = s.oracleIndex := rfl
@[simp] theorem takeFrame_calls (f : Frame) (s : State) : (takeFrame f s).calls = s.calls := rfl
@[simp] theorem takeFrame_sent (f : Frame) (s : State) : (takeFrame f s).sent = s.sent := rfl
@[simp] theorem takeFrame_polled (f : Frame) (s : State) : (takeFrame f s).polled = s.polled := rfl
@[simp] theorem takeFrame_returned (f : Frame) (s : State) : (takeFrame f s).returned = s.returned := rfl
@[simp] theorem takeFrame_reports (f : Frame) (s : State) : (takeFrame f s).reports = s.reports := rfl

@[simp] theorem returnParsed_tx (s : State) : (returnParsed s).tx = s.tx := rfl
@[simp] theorem returnParsed_rx (s : State) : (returnParsed s).rx = Buffer.none := rfl
@[simp] theorem returnParsed_pr (s : State) : (returnParsed s).pr = .skipped := rfl
@[simp] theorem returnParsed_handle (s : State) : (returnParsed s).handle = s.handle := rfl
@[simp] theorem returnParsed_cfg (s : State) : (returnParsed s).cfg = s.cfg := rfl
@[simp] theorem returnParsed_transports (s : State) : (returnParsed s).transports = s.transports := rfl
@[simp] theorem returnParsed_oracleIndex (s : State) : (returnParsed s).oracleIndex = s.oracleIndex := rfl
@[simp] theorem returnParsed_calls (s : State) : (returnParsed s).calls = s.calls := rfl
@[simp] theorem returnParsed_sent (s : State) : (returnParsed s).sent = s.sent := rfl
@[simp] theorem returnParsed_polled (s : State) : (returnParsed s).polled = s.polled := rfl
@[simp] theorem returnParsed_returned (s : State) : (returnParsed s).returned = s.returned ++ [.parsed s.pr] := rfl
@[simp] theorem returnParsed_reports (s : State) : (returnParsed s).reports = s.reports := rfl

@[simp] theorem reportParsed_tx (sink : Sink) (s : State) : (reportParsed sink s).tx = s.tx := rfl
@[simp] theorem reportParsed_rx (sink : Sink) (s : State) : (reportParsed sink s).rx = Buffer.none := rfl
@[simp] theorem reportParsed_pr (sink : Sink) (s : State) : (reportParsed sink s).pr = .skipped := rfl
@[simp] theorem reportParsed_handle (sink : Sink) (s : State) : (reportParsed sink s).handle = s.handle := rfl
@[simp] theorem reportParsed_cfg (sink : Sink) (s : State) : (reportParsed sink s).cfg = s.cfg := rfl
@[simp] theorem reportParsed_transports (sink : Sink) (s : State) :
    (reportParsed sink s).transports = s.transports := rfl
@[simp] theorem reportParsed_oracleIndex (sink : Sink) (s : State) :
    (reportParsed sink s).oracleIndex = s.oracleIndex := rfl
@[simp] theorem reportParsed_calls (sink : Sink) (s : State) : (reportParsed sink s).calls = s.calls := rfl
@[simp] theorem reportParsed_sent (sink : Sink) (s : State) : (reportParsed sink s).sent = s.sent := rfl
@[simp] theorem reportParsed_polled (sink : Sink) (s : State) : (reportParsed sink s).polled = s.polled := rfl
@[simp] theorem reportParsed_returned (sink : Sink) (s : State) : (reportParsed sink s).returned = s.returned := rfl
@[simp] theorem reportParsed_reports (sink : Sink) (s : State) :
    (reportParsed sink s).reports = if s.pr = .skipped then s.reports else s.reports ++ [⟨sink, s.pr⟩] := rfl

@[simp] theorem pollTransport_tx (T : Handle) (s : State) : (pollTransport T s).tx = s.tx := rfl
@[simp] theorem pollTransport_rx (T : Handle) (s : State) : (pollTransport T s).rx = s.rx := rfl
@[simp] theorem pollTransport_pr (T : Handle) (s : State) : (pollTransport T s).pr = s.pr := rfl
@[simp] theorem pollTransport_handle (T : Handle) (s : State) : (pollTransport T s).handle = s.handle := rfl
@[simp] theorem pollTransport_cfg (T : Handle) (s : State) : (pollTransport T s).cfg = s.cfg := rfl
@[simp] theorem pollTransport_transports (T : Handle) (s : State) :
    (pollTransport T s).transports = setTransport s.transports T (afterReceiveAnswer (transportOf s T)) := rfl
@[simp] theorem pollTransport_oracleIndex (T : Handle) (s : State) :
    (pollTransport T s).oracleIndex = s.oracleIndex + 1 := rfl
@[simp] theorem pollTransport_calls (T : Handle) (s : State) : (pollTransport T s).calls = s.calls := rfl
@[simp] theorem pollTransport_sent (T : Handle) (s : State) : (pollTransport T s).sent = s.sent := rfl
@[simp] theorem pollTransport_polled (T : Handle) (s : State) :
    (pollTransport T s).polled = s.polled ++ [⟨T, s.cfg.recvTimeoutMs⟩] := rfl
@[simp] theorem pollTransport_returned (T : Handle) (s : State) : (pollTransport T s).returned = s.returned := rfl
@[simp] theorem pollTransport_reports (T : Handle) (s : State) : (pollTransport T s).reports = s.reports := rfl

@[simp] theorem afterParse_tx (s : State) (least : Nat) (value : ParsedResponse) :
    (afterParse s least value).tx = s.tx := rfl
@[simp] theorem afterParse_rx (s : State) (least : Nat) (value : ParsedResponse) :
    (afterParse s least value).rx = s.rx := rfl
@[simp] theorem afterParse_pr (s : State) (least : Nat) (value : ParsedResponse) :
    (afterParse s least value).pr = if s.rx.len.val < least then .skipped else value := rfl
@[simp] theorem afterParse_handle (s : State) (least : Nat) (value : ParsedResponse) :
    (afterParse s least value).handle = s.handle := rfl
@[simp] theorem afterParse_cfg (s : State) (least : Nat) (value : ParsedResponse) :
    (afterParse s least value).cfg = s.cfg := rfl
@[simp] theorem afterParse_transports (s : State) (least : Nat) (value : ParsedResponse) :
    (afterParse s least value).transports = s.transports := rfl
@[simp] theorem afterParse_oracleIndex (s : State) (least : Nat) (value : ParsedResponse) :
    (afterParse s least value).oracleIndex = s.oracleIndex := rfl
@[simp] theorem afterParse_calls (s : State) (least : Nat) (value : ParsedResponse) :
    (afterParse s least value).calls = s.calls := rfl
@[simp] theorem afterParse_sent (s : State) (least : Nat) (value : ParsedResponse) :
    (afterParse s least value).sent = s.sent := rfl
@[simp] theorem afterParse_polled (s : State) (least : Nat) (value : ParsedResponse) :
    (afterParse s least value).polled = s.polled := rfl
@[simp] theorem afterParse_returned (s : State) (least : Nat) (value : ParsedResponse) :
    (afterParse s least value).returned = s.returned := rfl
@[simp] theorem afterParse_reports (s : State) (least : Nat) (value : ParsedResponse) :
    (afterParse s least value).reports = s.reports := rfl

@[simp] theorem afterStatus_tx (s : State) (code : Byte) (name : Byte → StatusName) :
    (afterStatus s code name).tx = s.tx := rfl
@[simp] theorem afterStatus_rx (s : State) (code : Byte) (name : Byte → StatusName) :
    (afterStatus s code name).rx = s.rx := rfl
@[simp] theorem afterStatus_pr (s : State) (code : Byte) (name : Byte → StatusName) :
    (afterStatus s code name).pr =
      if s.rx.len.val < 3 then .skipped else .status code (rxLane s 1) (name (rxLane s 1)) := rfl
@[simp] theorem afterStatus_handle (s : State) (code : Byte) (name : Byte → StatusName) :
    (afterStatus s code name).handle = s.handle := rfl
@[simp] theorem afterStatus_cfg (s : State) (code : Byte) (name : Byte → StatusName) :
    (afterStatus s code name).cfg = s.cfg := rfl
@[simp] theorem afterStatus_transports (s : State) (code : Byte) (name : Byte → StatusName) :
    (afterStatus s code name).transports = s.transports := rfl
@[simp] theorem afterStatus_oracleIndex (s : State) (code : Byte) (name : Byte → StatusName) :
    (afterStatus s code name).oracleIndex = s.oracleIndex := rfl
@[simp] theorem afterStatus_calls (s : State) (code : Byte) (name : Byte → StatusName) :
    (afterStatus s code name).calls = s.calls := rfl
@[simp] theorem afterStatus_sent (s : State) (code : Byte) (name : Byte → StatusName) :
    (afterStatus s code name).sent = s.sent := rfl
@[simp] theorem afterStatus_polled (s : State) (code : Byte) (name : Byte → StatusName) :
    (afterStatus s code name).polled = s.polled := rfl
@[simp] theorem afterStatus_returned (s : State) (code : Byte) (name : Byte → StatusName) :
    (afterStatus s code name).returned = s.returned := rfl
@[simp] theorem afterStatus_reports (s : State) (code : Byte) (name : Byte → StatusName) :
    (afterStatus s code name).reports = s.reports := rfl

end Sys2Proof.Laws
end

