-- ==== Sys2Proof/Laws/Boundary.lean ====
section
/-! SUPPORT. What `exec` is, row by row of the catalogs, and what the operations of the host answer. -/

namespace Sys2Proof.Laws

open Sys2Proof.Machine

/-- A command is encode-and-send of its raw payload, 1 to 7 bytes long, whose sealed form is its frame data
(47_transport_drain.md R243, 30_encoding.md R61, R70). -/
theorem exec_command {i : Instr} {p : EncPorts} (h : encodePorts i = some p) :
    ∃ P, rawPayload i = some (p.id, P) ∧ 1 ≤ P.length ∧ P.length ≤ 7 ∧ encode i = P ++ [cksum p.id P] ∧
      ∀ s, exec i s = encodeAndSend p.id P s := by
  cases i <;> cases h <;>
    refine ⟨_, rfl, Nat.le_of_ble_eq_true rfl, Nat.le_of_ble_eq_true rfl, ?_, fun _ => rfl⟩ <;>
    first
    | rfl
    | simp only [encode, sealFrame, byteAt, payloadSetCurrent, payloadSetBusAddr, payloadSetGroupAddr, payloadSetHome,
        payloadSpeed, payloadMoveRel, payloadMoveAbs, payloadMoveAxis, hi_eq, lo_eq, pk_eq, b2_eq, b1_eq, b0_eq]

/-- A response row changes the value and nothing else, from every state (45_resp_decoder.md R183). -/
theorem exec_response {i : Instr} (h : encodePorts i = none) (s : State) :
    ∃ r, exec i s = .next { s with pr := r } := by
  cases i <;> first
    | (cases h; done)
    | exact branchStatus_total _ _ _
    | exact branchSigned_total _ _ _
    | exact branchEncCarry_total _ _
    | exact branchAngle_total _ _
    | exact branchByte_total _ _
    | exact branchRaw_total _

/-- The dispatch gives response rows only (45_resp_decoder.md R172). -/
theorem encodePorts_dispatch (code : Byte) : encodePorts (dispatch code) = none := by
  revert code; decide

/-- Lane 0 of a received frame. -/
theorem readLane_bufferOf_zero (f : Frame) : readLane (bufferOf f).mem 0 = f.data.d0 := by
  simpa [readLanes, laneList] using readLanes_bufferOf f (k := 0) (n := 1) (by decide)

/-- Lane 1 of a received frame. -/
theorem readLane_bufferOf_one (f : Frame) : readLane (bufferOf f).mem 1 = f.data.d1 := by
  simpa [readLanes, laneList] using readLanes_bufferOf f (k := 1) (n := 1) (by decide)

/-- A mapped outcome is a next state exactly when the outcome is one. -/
theorem mapNext_next {o : Host.Outcome State Fault Refusal} {f : State → State} {t : State}
    (h : mapNext o f = .next t) : ∃ s, o = .next s ∧ t = f s := by
  cases o with
  | next s => exact ⟨s, rfl, by cases h; rfl⟩
  | fault r => cases h
  | refused r => cases h

/-- With no call a step changes nothing. -/
theorem step_nil {s : State} (h : s.calls = []) : step s = .next s := by rw [step, h]

/-- A step performs the caller's next call. -/
theorem step_cons {s : State} {c : Call} {rest : List Call} (h : s.calls = c :: rest) :
    step s = perform c { s with calls := rest } := by rw [step, h]

/-- A run of one step more. -/
theorem run_succ {s t : State} {k : Nat} (h : step s = .next t) :
    Host.Core.run core (k + 1) s = Host.Core.run core k t := by
  have h' : core.step s = .next t := h
  simp only [Host.Core.run, h']

end Sys2Proof.Laws
end

