-- ==== Sys2Proof/Laws/PerInstr.lean ====
section
/-! SUPPORT. Statements made per instruction: the shape of an instruction's words. -/

namespace Sys2Proof.Laws

/-- The words of an instruction: a command's frame data is exactly as long as its row's mask, 2 to 8 bytes, and its
lane 0 is its row's code (30_encoding.md R61, R65, R86); a response row has lane 0 alone. -/
def FrameShape.Statement (i : Instr) : Prop :=
  match encodePorts i with
  | some _ => 2 ≤ (encode i).length ∧ (encode i).length ≤ 8 ∧ (encode i).length = (rowPattern i).2.length ∧
      (encode i).head? = (rowPattern i).1.head?
  | none => (encode i).length = 1 ∧ ∀ code, (rowPattern i).1.head? = some code → (encode i).head? = some code

theorem FrameShape.rdEncCarry (id : Ident) : FrameShape.Statement (.rdEncCarry id) :=
  ⟨Nat.le_of_ble_eq_true rfl, Nat.le_of_ble_eq_true rfl, rfl, rfl⟩

theorem FrameShape.rdEncAdd (id : Ident) : FrameShape.Statement (.rdEncAdd id) :=
  ⟨Nat.le_of_ble_eq_true rfl, Nat.le_of_ble_eq_true rfl, rfl, rfl⟩

theorem FrameShape.rdSpeed (id : Ident) : FrameShape.Statement (.rdSpeed id) :=
  ⟨Nat.le_of_ble_eq_true rfl, Nat.le_of_ble_eq_true rfl, rfl, rfl⟩

theorem FrameShape.rdPulses (id : Ident) : FrameShape.Statement (.rdPulses id) :=
  ⟨Nat.le_of_ble_eq_true rfl, Nat.le_of_ble_eq_true rfl, rfl, rfl⟩

theorem FrameShape.rdIo (id : Ident) : FrameShape.Statement (.rdIo id) :=
  ⟨Nat.le_of_ble_eq_true rfl, Nat.le_of_ble_eq_true rfl, rfl, rfl⟩

theorem FrameShape.rdEncRaw (id : Ident) : FrameShape.Statement (.rdEncRaw id) :=
  ⟨Nat.le_of_ble_eq_true rfl, Nat.le_of_ble_eq_true rfl, rfl, rfl⟩

theorem FrameShape.rdAngleErr (id : Ident) : FrameShape.Statement (.rdAngleErr id) :=
  ⟨Nat.le_of_ble_eq_true rfl, Nat.le_of_ble_eq_true rfl, rfl, rfl⟩

theorem FrameShape.rdEn (id : Ident) : FrameShape.Statement (.rdEn id) :=
  ⟨Nat.le_of_ble_eq_true rfl, Nat.le_of_ble_eq_true rfl, rfl, rfl⟩

theorem FrameShape.rdProtect (id : Ident) : FrameShape.Statement (.rdProtect id) :=
  ⟨Nat.le_of_ble_eq_true rfl, Nat.le_of_ble_eq_true rfl, rfl, rfl⟩

theorem FrameShape.setMode (id : Ident) (mode : Byte) : FrameShape.Statement (.setMode id mode) :=
  ⟨Nat.le_of_ble_eq_true rfl, Nat.le_of_ble_eq_true rfl, rfl, rfl⟩

theorem FrameShape.setCurrent (id : Ident) (ma : BitVec 16) : FrameShape.Statement (.setCurrent id ma) :=
  ⟨Nat.le_of_ble_eq_true rfl, Nat.le_of_ble_eq_true rfl, rfl, rfl⟩

theorem FrameShape.setMicrostep (id : Ident) (mstep : Byte) : FrameShape.Statement (.setMicrostep id mstep) :=
  ⟨Nat.le_of_ble_eq_true rfl, Nat.le_of_ble_eq_true rfl, rfl, rfl⟩

theorem FrameShape.setEnActive (id : Ident) (pol : Byte) : FrameShape.Statement (.setEnActive id pol) :=
  ⟨Nat.le_of_ble_eq_true rfl, Nat.le_of_ble_eq_true rfl, rfl, rfl⟩

theorem FrameShape.setDir (id : Ident) (dir : Byte) : FrameShape.Statement (.setDir id dir) :=
  ⟨Nat.le_of_ble_eq_true rfl, Nat.le_of_ble_eq_true rfl, rfl, rfl⟩

theorem FrameShape.setAutoSleep (id : Ident) (en : Byte) : FrameShape.Statement (.setAutoSleep id en) :=
  ⟨Nat.le_of_ble_eq_true rfl, Nat.le_of_ble_eq_true rfl, rfl, rfl⟩

theorem FrameShape.setProtect (id : Ident) (en : Byte) : FrameShape.Statement (.setProtect id en) :=
  ⟨Nat.le_of_ble_eq_true rfl, Nat.le_of_ble_eq_true rfl, rfl, rfl⟩

theorem FrameShape.setInterp (id : Ident) (en : Byte) : FrameShape.Statement (.setInterp id en) :=
  ⟨Nat.le_of_ble_eq_true rfl, Nat.le_of_ble_eq_true rfl, rfl, rfl⟩

theorem FrameShape.setHoldCurrent (id : Ident) (pct : Byte) : FrameShape.Statement (.setHoldCurrent id pct) :=
  ⟨Nat.le_of_ble_eq_true rfl, Nat.le_of_ble_eq_true rfl, rfl, rfl⟩

theorem FrameShape.setBusRate (id : Ident) (rate : Byte) : FrameShape.Statement (.setBusRate id rate) :=
  ⟨Nat.le_of_ble_eq_true rfl, Nat.le_of_ble_eq_true rfl, rfl, rfl⟩

theorem FrameShape.setBusAddr (id : Ident) (addr : BitVec 16) : FrameShape.Statement (.setBusAddr id addr) :=
  ⟨Nat.le_of_ble_eq_true rfl, Nat.le_of_ble_eq_true rfl, rfl, rfl⟩

theorem FrameShape.setResponse (id : Ident) (respond : Byte) (active : Byte) : FrameShape.Statement (.setResponse id respond active) :=
  ⟨Nat.le_of_ble_eq_true rfl, Nat.le_of_ble_eq_true rfl, rfl, rfl⟩

theorem FrameShape.setGroupAddr (id : Ident) (group : BitVec 16) : FrameShape.Statement (.setGroupAddr id group) :=
  ⟨Nat.le_of_ble_eq_true rfl, Nat.le_of_ble_eq_true rfl, rfl, rfl⟩

theorem FrameShape.setKeyLock (id : Ident) (en : Byte) : FrameShape.Statement (.setKeyLock id en) :=
  ⟨Nat.le_of_ble_eq_true rfl, Nat.le_of_ble_eq_true rfl, rfl, rfl⟩

theorem FrameShape.setHome (id : Ident) (trig : Byte) (dir : Byte) (speed : BitVec 16) (endlim : Byte) (mode : Byte) : FrameShape.Statement (.setHome id trig dir speed endlim mode) :=
  ⟨Nat.le_of_ble_eq_true rfl, Nat.le_of_ble_eq_true rfl, rfl, rfl⟩

theorem FrameShape.goHome (id : Ident) : FrameShape.Statement (.goHome id) :=
  ⟨Nat.le_of_ble_eq_true rfl, Nat.le_of_ble_eq_true rfl, rfl, rfl⟩

theorem FrameShape.setZero (id : Ident) : FrameShape.Statement (.setZero id) :=
  ⟨Nat.le_of_ble_eq_true rfl, Nat.le_of_ble_eq_true rfl, rfl, rfl⟩

theorem FrameShape.setZeroMode (id : Ident) (mode : Byte) (en : Byte) (speed : Byte) (dir : Byte) : FrameShape.Statement (.setZeroMode id mode en speed dir) :=
  ⟨Nat.le_of_ble_eq_true rfl, Nat.le_of_ble_eq_true rfl, rfl, rfl⟩

theorem FrameShape.rdParam (id : Ident) (idx : Byte) : FrameShape.Statement (.rdParam id idx) :=
  ⟨Nat.le_of_ble_eq_true rfl, Nat.le_of_ble_eq_true rfl, rfl, rfl⟩

theorem FrameShape.speed (id : Ident) (dir : BitVec 1) (speed : BitVec 16) (acc : Byte) : FrameShape.Statement (.speed id dir speed acc) :=
  ⟨Nat.le_of_ble_eq_true rfl, Nat.le_of_ble_eq_true rfl, rfl, rfl⟩

theorem FrameShape.stopSpeed (id : Ident) (acc : Byte) : FrameShape.Statement (.stopSpeed id acc) :=
  ⟨Nat.le_of_ble_eq_true rfl, Nat.le_of_ble_eq_true rfl, rfl, rfl⟩

theorem FrameShape.moveRel (id : Ident) (dir : BitVec 1) (speed : BitVec 16) (acc : Byte) (pulses : BitVec 24) : FrameShape.Statement (.moveRel id dir speed acc pulses) :=
  ⟨Nat.le_of_ble_eq_true rfl, Nat.le_of_ble_eq_true rfl, rfl, rfl⟩

theorem FrameShape.stopRel (id : Ident) (acc : Byte) : FrameShape.Statement (.stopRel id acc) :=
  ⟨Nat.le_of_ble_eq_true rfl, Nat.le_of_ble_eq_true rfl, rfl, rfl⟩

theorem FrameShape.moveAbs (id : Ident) (speed : BitVec 16) (acc : Byte) (pos : BitVec 24) : FrameShape.Statement (.moveAbs id speed acc pos) :=
  ⟨Nat.le_of_ble_eq_true rfl, Nat.le_of_ble_eq_true rfl, rfl, rfl⟩

theorem FrameShape.stopAbs (id : Ident) (acc : Byte) : FrameShape.Statement (.stopAbs id acc) :=
  ⟨Nat.le_of_ble_eq_true rfl, Nat.le_of_ble_eq_true rfl, rfl, rfl⟩

theorem FrameShape.moveAxis (id : Ident) (speed : BitVec 16) (acc : Byte) (axis : BitVec 24) : FrameShape.Statement (.moveAxis id speed acc axis) :=
  ⟨Nat.le_of_ble_eq_true rfl, Nat.le_of_ble_eq_true rfl, rfl, rfl⟩

theorem FrameShape.stopAxis (id : Ident) (acc : Byte) : FrameShape.Statement (.stopAxis id acc) :=
  ⟨Nat.le_of_ble_eq_true rfl, Nat.le_of_ble_eq_true rfl, rfl, rfl⟩

theorem FrameShape.restore (id : Ident) : FrameShape.Statement (.restore id) :=
  ⟨Nat.le_of_ble_eq_true rfl, Nat.le_of_ble_eq_true rfl, rfl, rfl⟩

theorem FrameShape.restart (id : Ident) : FrameShape.Statement (.restart id) :=
  ⟨Nat.le_of_ble_eq_true rfl, Nat.le_of_ble_eq_true rfl, rfl, rfl⟩

theorem FrameShape.estop (id : Ident) : FrameShape.Statement (.estop id) :=
  ⟨Nat.le_of_ble_eq_true rfl, Nat.le_of_ble_eq_true rfl, rfl, rfl⟩

theorem FrameShape.calibrate (id : Ident) : FrameShape.Statement (.calibrate id) :=
  ⟨Nat.le_of_ble_eq_true rfl, Nat.le_of_ble_eq_true rfl, rfl, rfl⟩

theorem FrameShape.resp30 : FrameShape.Statement (.resp30) :=
  ⟨rfl, fun _ h => h⟩

theorem FrameShape.resp31 : FrameShape.Statement (.resp31) :=
  ⟨rfl, fun _ h => h⟩

theorem FrameShape.resp32 : FrameShape.Statement (.resp32) :=
  ⟨rfl, fun _ h => h⟩

theorem FrameShape.resp33 : FrameShape.Statement (.resp33) :=
  ⟨rfl, fun _ h => h⟩

theorem FrameShape.resp34 : FrameShape.Statement (.resp34) :=
  ⟨rfl, fun _ h => h⟩

theorem FrameShape.resp35 : FrameShape.Statement (.resp35) :=
  ⟨rfl, fun _ h => h⟩

theorem FrameShape.resp39 : FrameShape.Statement (.resp39) :=
  ⟨rfl, fun _ h => h⟩

theorem FrameShape.resp3A : FrameShape.Statement (.resp3A) :=
  ⟨rfl, fun _ h => h⟩

theorem FrameShape.resp3E : FrameShape.Statement (.resp3E) :=
  ⟨rfl, fun _ h => h⟩

theorem FrameShape.resp82 : FrameShape.Statement (.resp82) :=
  ⟨rfl, fun _ h => h⟩

theorem FrameShape.resp83 : FrameShape.Statement (.resp83) :=
  ⟨rfl, fun _ h => h⟩

theorem FrameShape.resp84 : FrameShape.Statement (.resp84) :=
  ⟨rfl, fun _ h => h⟩

theorem FrameShape.resp85 : FrameShape.Statement (.resp85) :=
  ⟨rfl, fun _ h => h⟩

theorem FrameShape.resp86 : FrameShape.Statement (.resp86) :=
  ⟨rfl, fun _ h => h⟩

theorem FrameShape.resp87 : FrameShape.Statement (.resp87) :=
  ⟨rfl, fun _ h => h⟩

theorem FrameShape.resp88 : FrameShape.Statement (.resp88) :=
  ⟨rfl, fun _ h => h⟩

theorem FrameShape.resp89 : FrameShape.Statement (.resp89) :=
  ⟨rfl, fun _ h => h⟩

theorem FrameShape.resp9B : FrameShape.Statement (.resp9B) :=
  ⟨rfl, fun _ h => h⟩

theorem FrameShape.resp8A : FrameShape.Statement (.resp8A) :=
  ⟨rfl, fun _ h => h⟩

theorem FrameShape.resp8B : FrameShape.Statement (.resp8B) :=
  ⟨rfl, fun _ h => h⟩

theorem FrameShape.resp8C : FrameShape.Statement (.resp8C) :=
  ⟨rfl, fun _ h => h⟩

theorem FrameShape.resp8D : FrameShape.Statement (.resp8D) :=
  ⟨rfl, fun _ h => h⟩

theorem FrameShape.resp8F : FrameShape.Statement (.resp8F) :=
  ⟨rfl, fun _ h => h⟩

theorem FrameShape.resp90 : FrameShape.Statement (.resp90) :=
  ⟨rfl, fun _ h => h⟩

theorem FrameShape.resp91 : FrameShape.Statement (.resp91) :=
  ⟨rfl, fun _ h => h⟩

theorem FrameShape.resp92 : FrameShape.Statement (.resp92) :=
  ⟨rfl, fun _ h => h⟩

theorem FrameShape.resp9A : FrameShape.Statement (.resp9A) :=
  ⟨rfl, fun _ h => h⟩

theorem FrameShape.respF6 : FrameShape.Statement (.respF6) :=
  ⟨rfl, fun _ h => h⟩

theorem FrameShape.respFD : FrameShape.Statement (.respFD) :=
  ⟨rfl, fun _ h => h⟩

theorem FrameShape.respFE : FrameShape.Statement (.respFE) :=
  ⟨rfl, fun _ h => h⟩

theorem FrameShape.respF5 : FrameShape.Statement (.respF5) :=
  ⟨rfl, fun _ h => h⟩

theorem FrameShape.resp3F : FrameShape.Statement (.resp3F) :=
  ⟨rfl, fun _ h => h⟩

theorem FrameShape.resp41 : FrameShape.Statement (.resp41) :=
  ⟨rfl, fun _ h => h⟩

theorem FrameShape.respF7 : FrameShape.Statement (.respF7) :=
  ⟨rfl, fun _ h => h⟩

theorem FrameShape.resp80 : FrameShape.Statement (.resp80) :=
  ⟨rfl, fun _ h => h⟩

theorem FrameShape.respOther (code : Byte) : FrameShape.Statement (.respOther code) :=
  ⟨rfl, fun _ h => by cases h⟩

end Sys2Proof.Laws
end

