-- ==== Sys2Proof/Laws/Transports.lean ====
section
/-! SUPPORT. Read after write of the Transports; every update keeps them listed with rising handles. -/

namespace Sys2Proof.Laws

open Sys2Proof.Machine

/-- Read after write, the same handle. -/
@[simp] theorem transportAt_setTransport_self (l : Transports) (T : Handle) (x : Transport) :
    transportAt (setTransport l T x) T = x := by
  induction l with
  | nil => simp [setTransport, transportAt]
  | cons e rest ih =>
    obtain ⟨U, y⟩ := e
    rw [setTransport]
    split
    · simp [transportAt]
    · split
      · simp [transportAt]
      · rw [transportAt, if_neg (Ne.symm ‹_›), ih]

/-- Read after write, another handle. -/
theorem transportAt_setTransport_ne (l : Transports) {T V : Handle} (x : Transport) (h : T ≠ V) :
    transportAt (setTransport l T x) V = transportAt l V := by
  induction l with
  | nil => simp [setTransport, transportAt, h]
  | cons e rest ih =>
    obtain ⟨U, y⟩ := e
    rw [setTransport]
    split
    · rw [transportAt, if_neg h]
    · split
      · subst U; simp only [transportAt, if_neg h]
      · simp only [transportAt, ih]

/-- Of two writes to one handle the later one stands. -/
@[simp] theorem setTransport_setTransport (l : Transports) (T : Handle) (x y : Transport) :
    setTransport (setTransport l T x) T y = setTransport l T y := by
  induction l with
  | nil => simp [setTransport]
  | cons e rest ih =>
    obtain ⟨U, z⟩ := e
    by_cases h₁ : T < U
    · simp [setTransport, h₁]
    · by_cases h₂ : T = U
      · subst U; simp [setTransport]
      · simp [setTransport, h₁, h₂, ih]

/-- A write keeps the handles rising, from any bound the handle meets. -/
theorem setTransport_wfFrom {l : Transports} {n : Nat} (T : Handle) (x : Transport)
    (h : Transports.wfFrom n l = true) (hn : n ≤ T) : Transports.wfFrom n (setTransport l T x) = true := by
  induction l generalizing n with
  | nil => simp [setTransport, Transports.wfFrom, hn]
  | cons e rest ih =>
    obtain ⟨U, y⟩ := e
    simp only [Transports.wfFrom, Bool.and_eq_true, decide_eq_true_eq] at h
    rw [setTransport]
    split
    · rename_i hlt
      simp only [Transports.wfFrom, Bool.and_eq_true, decide_eq_true_eq]
      exact ⟨hn, Nat.succ_le_of_lt hlt, h.2⟩
    · split
      · subst U; simp only [Transports.wfFrom, Bool.and_eq_true, decide_eq_true_eq]; exact ⟨hn, h.2⟩
      · rename_i hle hne
        simp only [Transports.wfFrom, Bool.and_eq_true, decide_eq_true_eq]
        exact ⟨h.1, ih h.2 (Nat.lt_of_le_of_ne (Nat.le_of_not_lt hle) (Ne.symm hne))⟩

/-- A write keeps the Transports listed with rising handles. -/
theorem setTransport_wf {l : Transports} (T : Handle) (x : Transport) (h : l.wf = true) :
    Transports.wf (setTransport l T x) = true := setTransport_wfFrom T x h (Nat.zero_le T)

/-- A `send` takes an answer of the Transport passed and leaves every other one (47_transport_drain.md R243). -/
theorem transportOf_sendFrame (s : State) (T : Handle) :
    transportOf (sendFrame s) T = if s.handle = T then afterSendAnswer (transportOf s T) else transportOf s T := by
  simp only [transportOf, sendFrame]
  split
  · subst T; exact transportAt_setTransport_self _ _ _
  · exact transportAt_setTransport_ne _ _ ‹_›

/-- A `receive` takes an answer of the Transport polled and leaves every other one (47_transport_drain.md R246). -/
theorem transportOf_pollTransport (U : Handle) (s : State) (T : Handle) :
    transportOf (pollTransport U s) T = if U = T then afterReceiveAnswer (transportOf s T) else transportOf s T := by
  simp only [transportOf, pollTransport]
  split
  · subst T; exact transportAt_setTransport_self _ _ _
  · exact transportAt_setTransport_ne _ _ ‹_›

@[simp] theorem transportOf_takeFrame (f : Frame) (s : State) (T : Handle) :
    transportOf (takeFrame f s) T = transportOf s T := rfl
@[simp] theorem transportOf_returnParsed (s : State) (T : Handle) :
    transportOf (returnParsed s) T = transportOf s T := rfl
@[simp] theorem transportOf_reportParsed (sink : Sink) (s : State) (T : Handle) :
    transportOf (reportParsed sink s) T = transportOf s T := rfl

end Sys2Proof.Laws
end

