-- ==== Sys2Proof/Laws/Step.lean ====
section
/-! SUPPORT. All that a step can do. -/

namespace Sys2Proof.Laws

open Sys2Proof.Machine

/-- The decoder yields a value and changes nothing else (45_resp_decoder.md R183). -/
theorem decodeRx_total (s : State) : ∃ r, decodeRx s = .next { s with pr := r } := by
  unfold decodeRx
  split
  · exact ⟨_, rfl⟩
  · exact exec_response (encodePorts_dispatch _) s

/-- A command asked for on the ports has ports of its own: no port value asks for a response row (10_state.md R26). -/
theorem encodePorts_of_decodeCommand {p : EncPorts} {i : Instr} (h : decodeCommand p = .ok i) :
    ∃ q, encodePorts i = some q := by
  unfold decodeCommand at h
  split at h <;> cases h <;> exact ⟨_, rfl⟩

/-- An encode-and-send through an open Transport: one frame through it, the sealed raw payload of the command
(47_transport_drain.md R243). -/
theorem performEncodeAndSend_next {T : Handle} {p : EncPorts} {s t : State}
    (h : performEncodeAndSend T p s = .next t) :
    (transportOf s T).opened = true ∧ ∃ id P, P.length ≤ 7 ∧
      t = afterSend { s with handle := T } id (P ++ [cksum id P]) := by
  unfold performEncodeAndSend at h
  split at h
  · rename_i i hi
    obtain ⟨q, hq⟩ := encodePorts_of_decodeCommand hi
    obtain ⟨P, _, _, hP, _, hx⟩ := exec_command hq
    rw [hx] at h
    have ho : State.opened { s with handle := T } = true := (encodeAndSend_next h).1
    rw [encodeAndSend_open _ hP ho] at h
    injection h with h
    exact ⟨ho, q.id, P, hP, h.symm⟩
  · cases h

/-- A drain of an open Transport: the end when it answers `false`, else one frame decoded and reported
(47_transport_drain.md R246). -/
theorem performDrain_next {T : Handle} {sink : Sink} {s t : State} (h : performDrain T sink s = .next t) :
    (transportOf s T).opened = true ∧
      ((receiveAnswer T s = none ∧ t = { pollTransport T s with returned := s.returned ++ [.drained] }) ∨
        ∃ f r, receiveAnswer T s = some f ∧
          decodeRx (takeFrame f { pollTransport T s with calls := .drain T sink :: s.calls }) =
            .next { takeFrame f { pollTransport T s with calls := .drain T sink :: s.calls } with pr := r } ∧
          t = reportParsed sink
            { takeFrame f { pollTransport T s with calls := .drain T sink :: s.calls } with pr := r }) := by
  unfold performDrain at h
  split at h
  · rename_i ho
    refine ⟨ho, ?_⟩
    split at h
    · rename_i hr
      injection h with h
      exact .inl ⟨hr, h.symm⟩
    · rename_i f hr
      obtain ⟨r, hd⟩ := decodeRx_total (takeFrame f { pollTransport T s with calls := .drain T sink :: s.calls })
      obtain ⟨u, hu, ht⟩ := mapNext_next h
      rw [hd] at hu
      injection hu with hu
      exact .inr ⟨f, r, hr, hd, hu ▸ ht⟩
  · cases h

/-- A decode of a frame: its value returned, nothing kept (47_transport_drain.md R248). -/
theorem performDecode_next {p : RxPorts} {s t : State} (h : performDecode p s = .next t) :
    ∃ f r, portFrame p = some f ∧ decodeRx (takeFrame f s) = .next { takeFrame f s with pr := r } ∧
      t = returnParsed { takeFrame f s with pr := r } := by
  unfold performDecode at h
  split at h
  · cases h
  · rename_i f hf
    obtain ⟨r, hd⟩ := decodeRx_total (takeFrame f s)
    obtain ⟨u, hu, ht⟩ := mapNext_next h
    rw [hd] at hu
    injection hu with hu
    exact ⟨f, r, hf, hd, hu ▸ ht⟩

/-- A pure encode: a frame returned, nothing sent (47_transport_drain.md R248). -/
theorem performEncode_next {p : EncPorts} {s t : State} (h : performEncode p s = .next t) :
    ∃ f, t = { s with returned := s.returned ++ [.frame f] } := by
  unfold performEncode at h
  split at h
  · cases h
  · split at h
    · cases h
    · injection h with h; exact ⟨_, h.symm⟩

/-- All that a step can do when it answers a next state. -/
theorem step_next {s t : State} (h : step s = .next t) :
    (s.calls = [] ∧ t = s) ∨ ∃ c rest, s.calls = c :: rest ∧ perform c { s with calls := rest } = .next t := by
  cases hc : s.calls with
  | nil =>
    rw [step_nil hc] at h
    injection h with h
    exact .inl ⟨rfl, h.symm⟩
  | cons c rest => exact .inr ⟨c, rest, rfl, by rw [← step_cons hc]; exact h⟩

end Sys2Proof.Laws
end

