-- ==== Sys2Proof/Tests/Slice0.lean ====
section
/-! SUPPORT. Tests of the model, their expected results taken from the spec's vectors (95_test_vectors.md) or computed by
hand from its rules, and a witness for the hypotheses of each obligation that has some. -/

namespace Sys2Proof.Tests

open Sys2Proof.Machine

section SerialElaboration

set_option Elab.async false

/-! Small states and frames. -/

/-- A run with that `ANGLE_ERR_BYTES` and two timeouts. -/
def runOf (w : AngleWidth) : Config := ⟨w, 100, 20⟩

/-- A Transport with handle 0, opened, with two listed answers to `send`, and one with handle 7, not opened; those calls
are asked for. -/
def openState (calls : List Call) : State :=
  { State.reset with
    cfg := runOf .four
    transports := [(0, ⟨true, [], [true, false], []⟩), (7, ⟨false, [true], [], []⟩)]
    calls := calls }

/-- A Transport with handle 3, opened, that delivers those frames and then answers `false`, and an opened one with handle
0; a drain of the former to the sink 5 is asked for. -/
def drainState (fs : List Frame) : State :=
  { openState [.drain 3 5] with
    transports := [(0, ⟨true, [], [true, false], []⟩), (3, ⟨true, [], [], fs.map some ++ [none]⟩)] }

/-- A frame of those data bytes. -/
def frm (bytes : List Byte) : Frame := frameOf 0x123 bytes

/-- The frame on the input ports of the decoder. -/
def rxOf (f : Frame) : RxPorts := ⟨f.id, BitVec.ofNat 4 f.len.val, f.data⟩

/-- The next state, if there is one. -/
def nextOf (o : Host.Outcome State Fault Refusal) : Option State :=
  match o with
  | .next t => some t
  | .fault _ => none
  | .refused _ => none

/-- The refusal, if there is one. -/
def refusalOf (o : Host.Outcome State Fault Refusal) : Option Refusal :=
  match o with
  | .next _ => none
  | .fault _ => none
  | .refused r => some r

/-! Well-formedness: each check refuses an ill-formed term, and admits the nearest well-formed one. -/

/-- A recognised code is not the fallback's (45_resp_decoder.md R178). -/
theorem test_wellFormed_fallback :
    (Instr.respOther 0x30).wellFormed = false ∧ (Instr.respOther 0x80).wellFormed = false ∧
    (Instr.respOther 0x50).wellFormed = true ∧ (Instr.respOther 0x00).wellFormed = true := by decide

/-- Indices 40 to 63 select no command (10_state.md R26). -/
theorem test_wellFormed_index :
    (EncPorts.mk 40 1 0).wellFormed = false ∧ (EncPorts.mk 63 1 0).wellFormed = false ∧
    (EncPorts.mk 39 1 0).wellFormed = true := by decide

/-- A received length above 8 is outside the frame type (10_state.md R27). -/
theorem test_wellFormed_length :
    (RxPorts.mk 1 9 ⟨0, 0, 0, 0, 0, 0, 0, 0⟩).wellFormed = false ∧
    (RxPorts.mk 1 15 ⟨0, 0, 0, 0, 0, 0, 0, 0⟩).wellFormed = false ∧
    (RxPorts.mk 1 8 ⟨0, 0, 0, 0, 0, 0, 0, 0⟩).wellFormed = true := by decide

/-! The Checksum Unit, 95_test_vectors.md section 2.1. -/

theorem test_cksum_vectors :
    cksum 0x1 [0x83, 0x01, 0xF4] = 0x79 ∧ cksum 0xFF [0x01] = 0x00 ∧ cksum 0x101 [0x30] = 0x31 ∧
    cksum 0x1FFFFFFF [0xFE, 0x02, 0x58, 0x02, 0xFF, 0xF3, 0x80] = 0xCB ∧
    cksum 0xFFFFFFFF [0xFF, 0xFF, 0xFF, 0xFF, 0xFF, 0xFF, 0xFF] = 0xF8 ∧ cksum 0x1 [] = 0x01 := by decide

theorem test_cksumOk_vectors :
    cksumOk (frameOf 0x01 [0x83, 0x01, 0xF4, 0x79]) = true ∧ cksumOk (frameOf 0x02 [0x83, 0x01, 0xF4, 0x79]) = false ∧
    cksumOk (frameOf 0x101 [0x83, 0x01, 0xF4, 0x79]) = true ∧
    cksumOk (frameOf 0x01 [0x83, 0xF4, 0x01, 0x79]) = true := by decide

/-! Operands and fields. -/

/-- 30_encoding.md R67 to R69, 44_cmd_motion_maint.md R151. -/
theorem test_operand_bytes :
    hi 0x01F4 = 0x01 ∧ lo 0x01F4 = 0xF4 ∧ pk 1 0xFFFF = 0x8F ∧ pk 0 0x1234 = 0x02 ∧
    [b2 (BitVec.ofInt 24 (-3200)), b1 (BitVec.ofInt 24 (-3200)), b0 (BitVec.ofInt 24 (-3200))] = [0xFF, 0xF3, 0x80] := by
  decide

/-- 45_resp_decoder.md R174: the corners of sign extension. -/
theorem test_sign_extension :
    sext 48 0x800000000000 = -140737488355328 ∧ sext 48 0x80000000 = 2147483648 ∧ sext 16 0xFFFF = -1 ∧
    sext 32 0x7FFFFFFF = 2147483647 ∧ sext64 16 0x8000 = 0xFFFFFFFFFFFF8000 := by decide

/-! Memory: a read after a write, and the canonical form. -/

theorem test_memory_canonical :
    setLane [(1, 5), (3, 7)] 2 6 = [(1, 5), (2, 6), (3, 7)] ∧ setLane [(1, 5), (3, 7)] 1 0 = [(3, 7)] ∧
    readLane [(1, 5), (3, 7)] 3 = 7 ∧ readLane [(1, 5), (3, 7)] 2 = 0 ∧
    Memory.wf [(3, 7), (1, 5)] = false ∧ Memory.wf [(1, 0)] = false ∧ Memory.wf [(8, 1)] = false := by decide

/-- 00_scope.md R11: the two primitives are undefined outside their range. -/
theorem test_memory_range :
    (memWrite [] 7 [1, 2]).toOption = none ∧ (memWrite [] 6 [1, 2]).toOption = some [(6, 1), (7, 2)] ∧
    (memRead (bufferOf (frm [0x3A, 0x01])) 1 2).toOption = none ∧
    (memRead (bufferOf (frm [0x83, 0x01, 0xF4])) 1 2).toOption = some 500 := by decide

/-! One theorem per instruction: a word written out from its encoding decodes to it, and what it does. -/

/-- Words of E1, frame of E3. -/
theorem test_rdEncCarry :
    decodeTableWord 16 0x3031 = some (.rdEncCarry 0x1) ∧
    frameSent (.rdEncCarry 0xffffffff) = some (frameOf 0xffffffff [0x30, 0x2F]) := by decide

/-- Words of E5, frame of E5. -/
theorem test_rdEncAdd :
    decodeTableWord 16 0x3132 = some (.rdEncAdd 0x1) ∧
    frameSent (.rdEncAdd 0x1) = some (frameOf 0x1 [0x31, 0x32]) := by decide

/-- Words of E6, frame of E6. -/
theorem test_rdSpeed :
    decodeTableWord 16 0x3233 = some (.rdSpeed 0x1) ∧
    frameSent (.rdSpeed 0x1) = some (frameOf 0x1 [0x32, 0x33]) := by decide

/-- Words of E7, frame of E7. -/
theorem test_rdPulses :
    decodeTableWord 16 0x3334 = some (.rdPulses 0x1) ∧
    frameSent (.rdPulses 0x1) = some (frameOf 0x1 [0x33, 0x34]) := by decide

/-- Words of E8, frame of E8. -/
theorem test_rdIo :
    decodeTableWord 16 0x3435 = some (.rdIo 0x1) ∧
    frameSent (.rdIo 0x1) = some (frameOf 0x1 [0x34, 0x35]) := by decide

/-- Words of E9, frame of E9. -/
theorem test_rdEncRaw :
    decodeTableWord 16 0x3536 = some (.rdEncRaw 0x1) ∧
    frameSent (.rdEncRaw 0x1) = some (frameOf 0x1 [0x35, 0x36]) := by decide

/-- Words of E10, frame of E10. -/
theorem test_rdAngleErr :
    decodeTableWord 16 0x393A = some (.rdAngleErr 0x1) ∧
    frameSent (.rdAngleErr 0x1) = some (frameOf 0x1 [0x39, 0x3A]) := by decide

/-- Words of E11, frame of E11. -/
theorem test_rdEn :
    decodeTableWord 16 0x3A3B = some (.rdEn 0x1) ∧
    frameSent (.rdEn 0x1) = some (frameOf 0x1 [0x3A, 0x3B]) := by decide

/-- Words of E12, frame of E12. -/
theorem test_rdProtect :
    decodeTableWord 16 0x3E3F = some (.rdProtect 0x1) ∧
    frameSent (.rdProtect 0x1) = some (frameOf 0x1 [0x3E, 0x3F]) := by decide

/-- Words of E13, frame of E15. -/
theorem test_setMode :
    decodeTableWord 24 0x820487 = some (.setMode 0x1 4) ∧
    frameSent (.setMode 0x2 255) = some (frameOf 0x2 [0x82, 0xFF, 0x83]) := by decide

/-- Words of E16, frame of E21. -/
theorem test_setCurrent :
    decodeTableWord 32 0x8301F479 = some (.setCurrent 0x1 500) ∧
    frameSent (.setCurrent 0x7ff 1600) = some (frameOf 0x7ff [0x83, 0x06, 0x40, 0xC8]) := by decide

/-- Words of E22, frame of E22. -/
theorem test_setMicrostep :
    decodeTableWord 24 0x841095 = some (.setMicrostep 0x1 16) ∧
    frameSent (.setMicrostep 0x1 16) = some (frameOf 0x1 [0x84, 0x10, 0x95]) := by decide

/-- Words of E23, frame of E23. -/
theorem test_setEnActive :
    decodeTableWord 24 0x850187 = some (.setEnActive 0x1 1) ∧
    frameSent (.setEnActive 0x1 1) = some (frameOf 0x1 [0x85, 0x01, 0x87]) := by decide

/-- Words of E24, frame of E24. -/
theorem test_setDir :
    decodeTableWord 24 0x860188 = some (.setDir 0x1 1) ∧
    frameSent (.setDir 0x1 1) = some (frameOf 0x1 [0x86, 0x01, 0x88]) := by decide

/-- Words of E25, frame of E25. -/
theorem test_setAutoSleep :
    decodeTableWord 24 0x870189 = some (.setAutoSleep 0x1 1) ∧
    frameSent (.setAutoSleep 0x1 1) = some (frameOf 0x1 [0x87, 0x01, 0x89]) := by decide

/-- Words of E26, frame of E26. -/
theorem test_setProtect :
    decodeTableWord 24 0x88018A = some (.setProtect 0x1 1) ∧
    frameSent (.setProtect 0x1 1) = some (frameOf 0x1 [0x88, 0x01, 0x8A]) := by decide

/-- Words of E27, frame of E27. -/
theorem test_setInterp :
    decodeTableWord 24 0x89018B = some (.setInterp 0x1 1) ∧
    frameSent (.setInterp 0x1 1) = some (frameOf 0x1 [0x89, 0x01, 0x8B]) := by decide

/-- Words of E28, frame of E28. -/
theorem test_setHoldCurrent :
    decodeTableWord 24 0x9B04A0 = some (.setHoldCurrent 0x1 4) ∧
    frameSent (.setHoldCurrent 0x1 4) = some (frameOf 0x1 [0x9B, 0x04, 0xA0]) := by decide

/-- Words of E29, frame of E29. -/
theorem test_setBusRate :
    decodeTableWord 24 0x8A028D = some (.setBusRate 0x1 2) ∧
    frameSent (.setBusRate 0x1 2) = some (frameOf 0x1 [0x8A, 0x02, 0x8D]) := by decide

/-- Words of E31, frame of E31. -/
theorem test_setBusAddr :
    decodeTableWord 32 0x8B07FF92 = some (.setBusAddr 0x1 2047) ∧
    frameSent (.setBusAddr 0x1 2047) = some (frameOf 0x1 [0x8B, 0x07, 0xFF, 0x92]) := by decide

/-- Words of 30_encoding.md R76, computed by hand, frame of E33. -/
theorem test_setResponse :
    decodeTableWord 32 0x8C01008E = some (.setResponse 0x1 1 0) ∧
    frameSent (.setResponse 0x1 1 1) = some (frameOf 0x1 [0x8C, 0x01, 0x01, 0x8F]) := by decide

/-- Words of 30_encoding.md R76, computed by hand, frame of E34. -/
theorem test_setGroupAddr :
    decodeTableWord 32 0x8D0150DF = some (.setGroupAddr 0x1 336) ∧
    frameSent (.setGroupAddr 0x1 80) = some (frameOf 0x1 [0x8D, 0x00, 0x50, 0xDE]) := by decide

/-- Words of E35, frame of E35. -/
theorem test_setKeyLock :
    decodeTableWord 24 0x8F0191 = some (.setKeyLock 0x1 1) ∧
    frameSent (.setKeyLock 0x1 1) = some (frameOf 0x1 [0x8F, 0x01, 0x91]) := by decide

/-- Words of E38, frame of E38. -/
theorem test_setHome :
    decodeTableWord 64 0x9001000102000198 = some (.setHome 0x3 1 0 258 0 1) ∧
    frameSent (.setHome 0x3 1 0 258 0 1) =
      some (frameOf 0x3 [0x90, 0x01, 0x00, 0x01, 0x02, 0x00, 0x01, 0x98]) := by decide

/-- Words of E39, frame of E39. -/
theorem test_goHome :
    decodeTableWord 16 0x9192 = some (.goHome 0x1) ∧
    frameSent (.goHome 0x1) = some (frameOf 0x1 [0x91, 0x92]) := by decide

/-- Words of E40, frame of E40. -/
theorem test_setZero :
    decodeTableWord 16 0x9293 = some (.setZero 0x1) ∧
    frameSent (.setZero 0x1) = some (frameOf 0x1 [0x92, 0x93]) := by decide

/-- Words of 30_encoding.md R76, computed by hand, frame of E41. -/
theorem test_setZeroMode :
    decodeTableWord 48 0x9A01020304A5 = some (.setZeroMode 0x1 1 2 3 4) ∧
    frameSent (.setZeroMode 0x1 1 1 2 0) = some (frameOf 0x1 [0x9A, 0x01, 0x01, 0x02, 0x00, 0x9F]) := by decide

/-- Words of E42, frame of E44. -/
theorem test_rdParam :
    decodeTableWord 24 0x008283 = some (.rdParam 0x1 130) ∧
    frameSent (.rdParam 0x1 255) = some (frameOf 0x1 [0x00, 0xFF, 0x00]) := by decide

/-- Words of E52, frame of E50. -/
theorem test_speed :
    decodeTableWord 40 0xF68BB80A44 = some (.speed 0x1 1 3000 10) ∧
    frameSent (.speed 0x1 0 4660 1) = some (frameOf 0x1 [0xF6, 0x02, 0x34, 0x01, 0x2E]) := by decide

/-- Words of E53, frame of E53. -/
theorem test_stopSpeed :
    decodeTableWord 40 0xF6000002F9 = some (.stopSpeed 0x1 2) ∧
    frameSent (.stopSpeed 0x1 2) = some (frameOf 0x1 [0xF6, 0x00, 0x00, 0x02, 0xF9]) := by decide

/-- Words of E58, frame of E56. -/
theorem test_moveRel :
    decodeTableWord 64 0xFD806400000001E3 = some (.moveRel 0x1 1 100 0 1) ∧
    frameSent (.moveRel 0x1 1 3000 255 16777215) =
      some (frameOf 0x1 [0xFD, 0x8B, 0xB8, 0xFF, 0xFF, 0xFF, 0xFF, 0x3D]) := by decide

/-- Words of E59, frame of E59. -/
theorem test_stopRel :
    decodeTableWord 64 0xFD00000200000000 = some (.stopRel 0x1 2) ∧
    frameSent (.stopRel 0x1 2) = some (frameOf 0x1 [0xFD, 0x00, 0x00, 0x02, 0x00, 0x00, 0x00, 0x00]) := by decide

/-- Words of E60, frame of E63. -/
theorem test_moveAbs :
    decodeTableWord 64 0xFE025802FFF380CD = some (.moveAbs 0x1 600 2 (BitVec.ofInt 24 (-3200))) ∧
    frameSent (.moveAbs 0x1 65535 255 (BitVec.ofInt 24 (-8388608))) =
      some (frameOf 0x1 [0xFE, 0xFF, 0xFF, 0xFF, 0x80, 0x00, 0x00, 0x7C]) := by decide

/-- Words of E66, frame of E66. -/
theorem test_stopAbs :
    decodeTableWord 64 0xFE00000200000001 = some (.stopAbs 0x1 2) ∧
    frameSent (.stopAbs 0x1 2) = some (frameOf 0x1 [0xFE, 0x00, 0x00, 0x02, 0x00, 0x00, 0x00, 0x01]) := by decide

/-- Words of E68, frame of E68. -/
theorem test_moveAxis :
    decodeTableWord 64 0xF5025802FFC00011 = some (.moveAxis 0x1 600 2 (BitVec.ofInt 24 (-16384))) ∧
    frameSent (.moveAxis 0x1 600 2 (BitVec.ofInt 24 (-16384))) =
      some (frameOf 0x1 [0xF5, 0x02, 0x58, 0x02, 0xFF, 0xC0, 0x00, 0x11]) := by decide

/-- Words of E70, frame of E70. -/
theorem test_stopAxis :
    decodeTableWord 64 0xF5000002000000F8 = some (.stopAxis 0x1 2) ∧
    frameSent (.stopAxis 0x1 2) = some (frameOf 0x1 [0xF5, 0x00, 0x00, 0x02, 0x00, 0x00, 0x00, 0xF8]) := by decide

/-- Words of E71, frame of E71. -/
theorem test_restore :
    decodeTableWord 16 0x3F40 = some (.restore 0x1) ∧
    frameSent (.restore 0x1) = some (frameOf 0x1 [0x3F, 0x40]) := by decide

/-- Words of E72, frame of E72. -/
theorem test_restart :
    decodeTableWord 16 0x4142 = some (.restart 0x1) ∧
    frameSent (.restart 0x1) = some (frameOf 0x1 [0x41, 0x42]) := by decide

/-- Words of E73, frame of E75. -/
theorem test_estop :
    decodeTableWord 16 0xF7F8 = some (.estop 0x1) ∧
    frameSent (.estop 0x9) = some (frameOf 0x9 [0xF7, 0x00]) := by decide

/-- Words of E76, frame of E78. -/
theorem test_calibrate :
    decodeTableWord 24 0x800081 = some (.calibrate 0x1) ∧
    frameSent (.calibrate 0xff) = some (frameOf 0xff [0x80, 0x00, 0x7F]) := by decide

/-- Words of X2, value of X2. -/
theorem test_resp30 :
    decodeTableWord 64 0x30FFFFFFFFFFFF2B = some .resp30 ∧
    decodedValue (runOf .four) (frameOf 0x123 [0x30, 0xFF, 0xFF, 0xFF, 0xFF, 0xFF, 0xFF, 0x2B]) =
      some (.encCarry 0x30 (-1) 65535) := by decide

/-- Words of X9, value of X9. -/
theorem test_resp31 :
    decodeTableWord 64 0x31800000000000B2 = some .resp31 ∧
    decodedValue (runOf .four) (frameOf 0x123 [0x31, 0x80, 0x00, 0x00, 0x00, 0x00, 0x00, 0xB2]) =
      some (.signed 0x31 .w48 (-140737488355328)) := by decide

/-- Words of X16, value of X16. -/
theorem test_resp32 :
    decodeTableWord 32 0x328000B3 = some .resp32 ∧
    decodedValue (runOf .four) (frameOf 0x123 [0x32, 0x80, 0x00, 0xB3]) =
      some (.signed 0x32 .w16 (-32768)) := by decide

/-- Words of X24, value of X24. -/
theorem test_resp33 :
    decodeTableWord 48 0x3380000000B4 = some .resp33 ∧
    decodedValue (runOf .four) (frameOf 0x123 [0x33, 0x80, 0x00, 0x00, 0x00, 0xB4]) =
      some (.signed 0x33 .w32 (-2147483648)) := by decide

/-- Words of X32, value of X32. -/
theorem test_resp34 :
    decodeTableWord 24 0x34FF34 = some .resp34 ∧
    decodedValue (runOf .four) (frameOf 0x123 [0x34, 0xFF, 0x34]) = some (.statusByte 0x34 0xFF) := by decide

/-- Words of X37, value of X37. -/
theorem test_resp35 :
    decodeTableWord 64 0x35800000000000B6 = some .resp35 ∧
    decodedValue (runOf .four) (frameOf 0x123 [0x35, 0x80, 0x00, 0x00, 0x00, 0x00, 0x00, 0xB6]) =
      some (.signed 0x35 .w48 (-140737488355328)) := by decide

/-- Words of X45, values of X45 and X54. -/
theorem test_resp39 :
    decodeTableWord 48 0x39FFFFFE0036 = some .resp39 ∧
    decodedValue (runOf .four) (frameOf 0x123 [0x39, 0xFF, 0xFF, 0xFE, 0x00, 0x36]) =
      some (.angleErr 0x39 (-512) (-4608)) ∧
    decodedValue (runOf .six) (frameOf 0x123 [0x39, 0xFF, 0xFF, 0xFF, 0xFF, 0xFE, 0x00, 0x34]) =
      some (.angleErr 0x39 (-512) (-4608)) := by decide

/-- Words of X63, values of X63 and X64. -/
theorem test_resp3A :
    decodeTableWord 24 0x3A013C = some .resp3A ∧
    decodedValue (runOf .four) (frameOf 0x123 [0x3A, 0x01, 0x3C]) = some (.status 0x3A 1 (.named .enabled)) ∧
    decodedValue (runOf .four) (frameOf 0x123 [0x3A, 0x02, 0x3D]) = some (.status 0x3A 2 .unknown) := by decide

/-- Words of X69, values of X69 and X70. -/
theorem test_resp3E :
    decodeTableWord 24 0x3E0140 = some .resp3E ∧
    decodedValue (runOf .four) (frameOf 0x123 [0x3E, 0x01, 0x40]) = some (.status 0x3E 1 (.named .isProtected)) ∧
    decodedValue (runOf .four) (frameOf 0x123 [0x3E, 0x02, 0x41]) = some (.status 0x3E 2 .unknown) := by decide

/-- Words of X251, with a surplus lane (R180), values of X251 and X76. -/
theorem test_resp82 :
    decodeTableWord 32 0x82018400 = some .resp82 ∧
    decodedValue (runOf .four) (frameOf 0x123 [0x82, 0x01, 0x84]) = some (.status 0x82 1 (.named .success)) ∧
    decodedValue (runOf .four) (frameOf 0x123 [0x82, 0x02, 0x85]) = some (.status 0x82 2 .unknown) := by decide

/-- Words of X81, values of X81 and X82. -/
theorem test_resp83 :
    decodeTableWord 24 0x830185 = some .resp83 ∧
    decodedValue (runOf .four) (frameOf 0x123 [0x83, 0x01, 0x85]) = some (.status 0x83 1 (.named .success)) ∧
    decodedValue (runOf .four) (frameOf 0x123 [0x83, 0x02, 0x86]) = some (.status 0x83 2 .unknown) := by decide

/-- Words of X87, with a surplus lane (R180), values of X87 and X88. -/
theorem test_resp84 :
    decodeTableWord 32 0x84018600 = some .resp84 ∧
    decodedValue (runOf .four) (frameOf 0x123 [0x84, 0x01, 0x86]) = some (.status 0x84 1 (.named .success)) ∧
    decodedValue (runOf .four) (frameOf 0x123 [0x84, 0x02, 0x87]) = some (.status 0x84 2 .unknown) := by decide

/-- Words of X93, with a surplus lane (R180), values of X93 and X94. -/
theorem test_resp85 :
    decodeTableWord 32 0x85018700 = some .resp85 ∧
    decodedValue (runOf .four) (frameOf 0x123 [0x85, 0x01, 0x87]) = some (.status 0x85 1 (.named .success)) ∧
    decodedValue (runOf .four) (frameOf 0x123 [0x85, 0x02, 0x88]) = some (.status 0x85 2 .unknown) := by decide

/-- Words of X99, with a surplus lane (R180), values of X99 and X100. -/
theorem test_resp86 :
    decodeTableWord 32 0x86018800 = some .resp86 ∧
    decodedValue (runOf .four) (frameOf 0x123 [0x86, 0x01, 0x88]) = some (.status 0x86 1 (.named .success)) ∧
    decodedValue (runOf .four) (frameOf 0x123 [0x86, 0x02, 0x89]) = some (.status 0x86 2 .unknown) := by decide

/-- Words of X105, with a surplus lane (R180), values of X105 and X106. -/
theorem test_resp87 :
    decodeTableWord 32 0x87018900 = some .resp87 ∧
    decodedValue (runOf .four) (frameOf 0x123 [0x87, 0x01, 0x89]) = some (.status 0x87 1 (.named .success)) ∧
    decodedValue (runOf .four) (frameOf 0x123 [0x87, 0x02, 0x8A]) = some (.status 0x87 2 .unknown) := by decide

/-- Words of X111, with a surplus lane (R180), values of X111 and X112. -/
theorem test_resp88 :
    decodeTableWord 32 0x88018A00 = some .resp88 ∧
    decodedValue (runOf .four) (frameOf 0x123 [0x88, 0x01, 0x8A]) = some (.status 0x88 1 (.named .success)) ∧
    decodedValue (runOf .four) (frameOf 0x123 [0x88, 0x02, 0x8B]) = some (.status 0x88 2 .unknown) := by decide

/-- Words of X117, with a surplus lane (R180), values of X117 and X118. -/
theorem test_resp89 :
    decodeTableWord 32 0x89018B00 = some .resp89 ∧
    decodedValue (runOf .four) (frameOf 0x123 [0x89, 0x01, 0x8B]) = some (.status 0x89 1 (.named .success)) ∧
    decodedValue (runOf .four) (frameOf 0x123 [0x89, 0x02, 0x8C]) = some (.status 0x89 2 .unknown) := by decide

/-- Words of X123, with a surplus lane (R180), values of X123 and X124. -/
theorem test_resp9B :
    decodeTableWord 32 0x9B019D00 = some .resp9B ∧
    decodedValue (runOf .four) (frameOf 0x123 [0x9B, 0x01, 0x9D]) = some (.status 0x9B 1 (.named .success)) ∧
    decodedValue (runOf .four) (frameOf 0x123 [0x9B, 0x02, 0x9E]) = some (.status 0x9B 2 .unknown) := by decide

/-- Words of X129, with a surplus lane (R180), values of X129 and X130. -/
theorem test_resp8A :
    decodeTableWord 32 0x8A018C00 = some .resp8A ∧
    decodedValue (runOf .four) (frameOf 0x123 [0x8A, 0x01, 0x8C]) = some (.status 0x8A 1 (.named .success)) ∧
    decodedValue (runOf .four) (frameOf 0x123 [0x8A, 0x02, 0x8D]) = some (.status 0x8A 2 .unknown) := by decide

/-- Words of X135, values of X135 and X136. -/
theorem test_resp8B :
    decodeTableWord 24 0x8B018D = some .resp8B ∧
    decodedValue (runOf .four) (frameOf 0x123 [0x8B, 0x01, 0x8D]) = some (.status 0x8B 1 (.named .success)) ∧
    decodedValue (runOf .four) (frameOf 0x123 [0x8B, 0x02, 0x8E]) = some (.status 0x8B 2 .unknown) := by decide

/-- Words of X141, values of X141 and X142. -/
theorem test_resp8C :
    decodeTableWord 24 0x8C018E = some .resp8C ∧
    decodedValue (runOf .four) (frameOf 0x123 [0x8C, 0x01, 0x8E]) = some (.status 0x8C 1 (.named .success)) ∧
    decodedValue (runOf .four) (frameOf 0x123 [0x8C, 0x02, 0x8F]) = some (.status 0x8C 2 .unknown) := by decide

/-- Words of X147, values of X147 and X148. -/
theorem test_resp8D :
    decodeTableWord 24 0x8D018F = some .resp8D ∧
    decodedValue (runOf .four) (frameOf 0x123 [0x8D, 0x01, 0x8F]) = some (.status 0x8D 1 (.named .success)) ∧
    decodedValue (runOf .four) (frameOf 0x123 [0x8D, 0x02, 0x90]) = some (.status 0x8D 2 .unknown) := by decide

/-- Words of X153, with a surplus lane (R180), values of X153 and X154. -/
theorem test_resp8F :
    decodeTableWord 32 0x8F019100 = some .resp8F ∧
    decodedValue (runOf .four) (frameOf 0x123 [0x8F, 0x01, 0x91]) = some (.status 0x8F 1 (.named .success)) ∧
    decodedValue (runOf .four) (frameOf 0x123 [0x8F, 0x02, 0x92]) = some (.status 0x8F 2 .unknown) := by decide

/-- Words of X159, values of X159 and X160. -/
theorem test_resp90 :
    decodeTableWord 24 0x900192 = some .resp90 ∧
    decodedValue (runOf .four) (frameOf 0x123 [0x90, 0x01, 0x92]) = some (.status 0x90 1 (.named .success)) ∧
    decodedValue (runOf .four) (frameOf 0x123 [0x90, 0x02, 0x93]) = some (.status 0x90 2 .unknown) := by decide

/-- Words of X166, values of X166 and X167. -/
theorem test_resp91 :
    decodeTableWord 24 0x910294 = some .resp91 ∧
    decodedValue (runOf .four) (frameOf 0x123 [0x91, 0x02, 0x94]) = some (.status 0x91 2 (.named .success)) ∧
    decodedValue (runOf .four) (frameOf 0x123 [0x91, 0x03, 0x95]) = some (.status 0x91 3 .unknown) := by decide

/-- Words of X172, values of X172 and X173. -/
theorem test_resp92 :
    decodeTableWord 24 0x920194 = some .resp92 ∧
    decodedValue (runOf .four) (frameOf 0x123 [0x92, 0x01, 0x94]) = some (.status 0x92 1 (.named .success)) ∧
    decodedValue (runOf .four) (frameOf 0x123 [0x92, 0x02, 0x95]) = some (.status 0x92 2 .unknown) := by decide

/-- Words of X178, values of X178 and X179. -/
theorem test_resp9A :
    decodeTableWord 24 0x9A019C = some .resp9A ∧
    decodedValue (runOf .four) (frameOf 0x123 [0x9A, 0x01, 0x9C]) = some (.status 0x9A 1 (.named .success)) ∧
    decodedValue (runOf .four) (frameOf 0x123 [0x9A, 0x02, 0x9D]) = some (.status 0x9A 2 .unknown) := by decide

/-- Words of X185, values of X185 and X186. -/
theorem test_respF6 :
    decodeTableWord 24 0xF602F9 = some .respF6 ∧
    decodedValue (runOf .four) (frameOf 0x123 [0xF6, 0x02, 0xF9]) = some (.status 0xF6 2 (.named .stopComplete)) ∧
    decodedValue (runOf .four) (frameOf 0x123 [0xF6, 0x03, 0xFA]) = some (.status 0xF6 3 .unknown) := by decide

/-- Words of X193, values of X193 and X194. -/
theorem test_respFD :
    decodeTableWord 24 0xFD0301 = some .respFD ∧
    decodedValue (runOf .four) (frameOf 0x123 [0xFD, 0x03, 0x01]) = some (.status 0xFD 3 (.named .endLimitStop)) ∧
    decodedValue (runOf .four) (frameOf 0x123 [0xFD, 0x04, 0x02]) = some (.status 0xFD 4 .unknown) := by decide

/-- Words of X201, values of X201 and X202. -/
theorem test_respFE :
    decodeTableWord 24 0xFE0302 = some .respFE ∧
    decodedValue (runOf .four) (frameOf 0x123 [0xFE, 0x03, 0x02]) = some (.status 0xFE 3 (.named .endLimitStop)) ∧
    decodedValue (runOf .four) (frameOf 0x123 [0xFE, 0x04, 0x03]) = some (.status 0xFE 4 .unknown) := by decide

/-- Words of X209, values of X209 and X210. -/
theorem test_respF5 :
    decodeTableWord 24 0xF503F9 = some .respF5 ∧
    decodedValue (runOf .four) (frameOf 0x123 [0xF5, 0x03, 0xF9]) = some (.status 0xF5 3 (.named .endLimitStop)) ∧
    decodedValue (runOf .four) (frameOf 0x123 [0xF5, 0x04, 0xFA]) = some (.status 0xF5 4 .unknown) := by decide

/-- Words of X215, values of X215 and X216. -/
theorem test_resp3F :
    decodeTableWord 24 0x3F0141 = some .resp3F ∧
    decodedValue (runOf .four) (frameOf 0x123 [0x3F, 0x01, 0x41]) = some (.status 0x3F 1 (.named .success)) ∧
    decodedValue (runOf .four) (frameOf 0x123 [0x3F, 0x02, 0x42]) = some (.status 0x3F 2 .unknown) := by decide

/-- Words of X221, values of X221 and X222. -/
theorem test_resp41 :
    decodeTableWord 24 0x410143 = some .resp41 ∧
    decodedValue (runOf .four) (frameOf 0x123 [0x41, 0x01, 0x43]) = some (.status 0x41 1 (.named .success)) ∧
    decodedValue (runOf .four) (frameOf 0x123 [0x41, 0x02, 0x44]) = some (.status 0x41 2 .unknown) := by decide

/-- Words of X227, values of X227 and X228. -/
theorem test_respF7 :
    decodeTableWord 24 0xF701F9 = some .respF7 ∧
    decodedValue (runOf .four) (frameOf 0x123 [0xF7, 0x01, 0xF9]) = some (.status 0xF7 1 (.named .success)) ∧
    decodedValue (runOf .four) (frameOf 0x123 [0xF7, 0x02, 0xFA]) = some (.status 0xF7 2 .unknown) := by decide

/-- Words of X234, with a surplus lane (R180), values of X234 and X235. -/
theorem test_resp80 :
    decodeTableWord 32 0x80028300 = some .resp80 ∧
    decodedValue (runOf .four) (frameOf 0x123 [0x80, 0x02, 0x83]) = some (.status 0x80 2 (.named .fail)) ∧
    decodedValue (runOf .four) (frameOf 0x123 [0x80, 0x03, 0x84]) = some (.status 0x80 3 .unknown) := by decide

/-- Words and values of X239, X241 and X244, and the empty frame X249. -/
theorem test_respOther :
    decodeTableWord 8 0x50 = some (.respOther 0x50) ∧ decodeTableWord 24 0xF402F7 = some (.respOther 0xF4) ∧
    decodedValue (runOf .six) (frm [0x50, 0x01, 0x02, 0x03, 0x04, 0x05, 0x06, 0x07]) =
      some (.rawDump [0x50, 0x01, 0x02, 0x03, 0x04, 0x05, 0x06, 0x07]) ∧
    decodedValue (runOf .four) (frm []) = some .skipped := by decide

/-! Decoding at its edges. -/

/-- A move whose fields are all zero reads as its stop; a reserved bit of the packed lane makes no command frame
(entry 11, 30_encoding.md R86). -/
theorem test_decode_edges :
    decodeTableWord 40 0xF6000002F9 = some (.stopSpeed 0x01 2) ∧ decodeTableWord 40 0xF680000077 =
      some (.speed 0x01 1 0 0) ∧
    decodeTableWord 40 0xF610000000 = some .respF6 ∧ decodeTableWord 24 0x820184 = some (.setMode 0x01 1) ∧
    decodeTableWord 0 0 = none ∧ decodeTableWord 72 0x303030303030303030 = none := by decide

/-- 45_resp_decoder.md R173, R180, R181: short frames are skipped, surplus lanes and the checksum are not examined. -/
theorem test_decode_lengths :
    decodedValue (runOf .four) (frm [0x3A, 0x01]) = some .skipped ∧
    decodedValue (runOf .six) (frm [0x39, 0x00, 0x00, 0x02, 0x00, 0x3C]) = some .skipped ∧
    decodedValue (runOf .four) (frm [0x3A, 0x01, 0xFF, 0x00, 0x00]) =
      some (.status 0x3A 1 (.named .enabled)) := by decide

/-! The port binding and the textual form. -/

/-- 10_state.md R26: operands on `enc_arg`, the first most significant; bits above them ignored. -/
theorem test_ports_in :
    decodeCommand ⟨28, 0x01, 0xFE00000001025802⟩ = .ok (.speed 0x01 1 0x0258 2) ∧
    decodeCommand ⟨40, 0x01, 0⟩ = .error (.commandIndex 40) := by decide

/-- 10_state.md R27. -/
theorem test_ports_out :
    prPorts (.signed 0x32 .w16 (-2)) = { PrPorts.zero with
      kind := 3, code := 0x32, value := 0xFFFFFFFFFFFFFFFE, width := 16 } ∧
    prPorts (.angleErr 0x39 512 4608) = { PrPorts.zero with kind := 4, code := 0x39, value := 512, degNum := 4608 } ∧
    txPorts (frameOf 1 [0x30, 0x31]) = ⟨1, 2, ⟨0x30, 0x31, 0, 0, 0, 0, 0, 0⟩⟩ := by decide

/-- 30_encoding.md R82. -/
theorem test_assembler :
    assemble ⟨"MOVE_ABS", [1, 600, 2, -3200]⟩ = some (.moveAbs 1 600 2 (BitVec.ofInt 24 (-3200))) ∧
    assemble ⟨"MOVE_ABS", [1, 600, 2, 8388608]⟩ = none ∧ assemble ⟨"SET_MODE", [1]⟩ = none ∧
    assemble ⟨"NOP", [1]⟩ = none := by decide

/-! Steps. -/

/-- The placed table word runs as the first instruction after reset: a command is sent, a response is decoded. -/
theorem test_withFetchWord :
    (nextOf (step (State.reset.withFetchWord 24 0x820487))).map (fun t => t.sent.map Sent.frame) =
      some [frameOf 0x01 [0x82, 0x04, 0x87]] ∧
    (nextOf (step (State.reset.withFetchWord 64 0x31FFFFFFFFFFFF2C))).map State.returned =
      some [.parsed (.signed 0x31 .w48 (-1))] := by decide

/-- 47_transport_drain.md R243, R245: the answer of the Transport is returned, the timeout handed on. -/
theorem test_step_encodeAndSend :
    (nextOf (step (openState [.encodeAndSend 0 ⟨38, 0x09, 0⟩]))).map
        (fun t => (t.sent, t.returned, (transportOf t 0).sendAnswers, t.handle)) =
      some ([⟨0, frameOf 0x09 [0xF7, 0x00], 100⟩], [.sendResult true], [false], 0) := by decide

/-- 10_state.md R25, 60_exceptions.md R273: two Transports in one run, each used through its own handle. -/
theorem test_two_transports :
    (nextOf (Host.Core.run core 2 (openState [.openTransport 7, .encodeAndSend 7 ⟨38, 0x09, 0⟩]))).map
        (fun t => (t.sent.map Sent.handle, (transportOf t 7).opened, transportOf t 0)) =
      some ([7], true, ⟨true, [], [true, false], []⟩) ∧
    refusalOf (step (openState [.encodeAndSend 7 ⟨38, 0x09, 0⟩])) = some .transportNotOpen ∧
    refusalOf (step (openState [.drain 1 0])) = some .transportNotOpen := by decide

/-- 47_transport_drain.md R242, 10_state.md R26, R27: what is refused, by name. -/
theorem test_step_refusals :
    refusalOf (step { State.reset with calls := [.encodeAndSend 0 ⟨0, 1, 0⟩] }) = some .transportNotOpen ∧
    refusalOf (step (openState [.encode ⟨40, 1, 0⟩])) = some (.noSuchCommand 40) ∧
    refusalOf (step (openState [.decode ⟨1, 9, ⟨0, 0, 0, 0, 0, 0, 0, 0⟩⟩])) = some (.frameTooLong 9) := by decide

/-- 47_transport_drain.md R246: two frames, one of them short, and the end of the drain. -/
theorem test_drain :
    (nextOf (Host.Core.run core 3 (drainState [frm [0x3A, 0x01, 0x3C], frm [0x3A]]))).map
      (fun t => (t.reports, t.returned, t.polled, t.calls)) =
      some ([⟨5, .status 0x3A 1 (.named .enabled)⟩], [.drained], [⟨3, 20⟩, ⟨3, 20⟩, ⟨3, 20⟩], []) := by decide

/-! Witnesses: for each obligation with hypotheses, values that meet all of them together. -/

theorem witness_ChecksumSurvivesAccumulatorWrap : (8 : Nat) ≤ 8 ∧ (8 : Nat) ≤ 64 := by decide

theorem witness_StatusReadsSendCodeAndChecksum : (openState []).opened = true := by decide

theorem witness_ByteConfigurationSendsOperandUnchanged : (openState [.drain 0 0]).opened = true := by decide

theorem witness_WideConfigurationSendsBigEndian : (drainState []).opened = true := by decide

theorem witness_HomingAndParameterFrames : (drainState [frm [0x50]]).opened = true := by decide

theorem witness_MovesPackDirectionSpeedAndTarget : openedReset.opened = true := by decide

theorem witness_StopsSendZeroFieldsAndAcceleration : (openState [.cksum 1 []]).opened = true := by decide

theorem witness_MaintenanceFrames : (openState [.openTransport 7]).opened = true := by decide

/-- The first and the last command, one with operands. -/
theorem witness_EveryCommandSendsItsTableFrame :
    encodePorts (.rdEncCarry 1) = some ⟨0, 1, 0⟩ ∧ encodePorts (.calibrate 1) = some ⟨39, 1, 0⟩ ∧
    encodePorts (.setMode 1 4) = some ⟨9, 1, 4⟩ ∧ (openState []).opened = true := by decide

/-- From two different open states; and a response row. -/
theorem witness_EqualCommandsSendEqualFrames :
    (∃ t t', exec (.setMode 1 4) (openState []) = .next t ∧ exec (.setMode 1 4) (drainState []) = .next t') ∧
    (∃ t t', exec .resp30 (openState []) = .next t ∧ exec .resp30 State.reset = .next t') ∧
    openState [] ≠ drainState [] := ⟨⟨_, _, rfl, rfl⟩, ⟨_, _, rfl, rfl⟩, by decide⟩

/-- A response row, a frame of 2 bytes and a frame of 8. -/
theorem witness_EveryFrameSentIsSealedAndFits :
    (∃ t, exec .resp30 State.reset = .next t) ∧ (∃ t, exec (.goHome 1) (openState []) = .next t) ∧
    (∃ t, exec (.setHome 1 0 1 300 1 0) (openState []) = .next t) := ⟨⟨_, rfl⟩, ⟨_, rfl⟩, ⟨_, rfl⟩⟩

theorem witness_CommandFramesMatchTheirRow :
    encodePorts (.stopAxis 1 2) = some ⟨35, 1, 2⟩ ∧ encodePorts (.rdParam 1 0x82) = some ⟨27, 1, 0x82⟩ := by decide

/-- The empty payload, the longest that fits, and the shortest that does not. -/
theorem witness_AppendRuleFormsTheBuffer :
    ([] : List Byte).length ≤ 7 ∧ ([0x90, 0, 1, 1, 0x2C, 1, 0] : List Byte).length ≤ 7 ∧
    8 ≤ ([0x90, 0, 1, 1, 0x2C, 1, 0, 0] : List Byte).length := by decide

theorem witness_ClosedTransportIsRefused :
    State.reset.opened = false ∧ encodePorts (.estop 1) = some ⟨38, 1, 0⟩ ∧
    ({ openState [] with handle := 7 } : State).opened = false ∧ (transportOf (openState []) 7).opened = false := by decide

/-- The shortest and the longest frame of an unrecognised code, and the empty frame. -/
theorem witness_UnrecognisedFramesAreDumpedWhole :
    (1 ≤ (frm [0x50]).len.val ∧ (frm [0x50]).data.d0 ∉ responseCodes) ∧
    (1 ≤ (frm [0, 1, 2, 3, 4, 5, 6, 7]).len.val ∧ (frm [0, 1, 2, 3, 4, 5, 6, 7]).data.d0 ∉ responseCodes) ∧
    (frm []).len.val = 0 := by decide

/-- One byte, and one byte less than the minimum, with both widths of code `0x39`. -/
theorem witness_ShortFramesAreSkipped :
    (1 ≤ (frm [0x3A]).len.val ∧ minLenOf .four (frm [0x3A]).data.d0 = some 3 ∧ (frm [0x3A]).len.val < 3) ∧
    (1 ≤ (frm [0x39, 0, 0, 2, 0]).len.val ∧ minLenOf .four (frm [0x39, 0, 0, 2, 0]).data.d0 = some 6 ∧
      (frm [0x39, 0, 0, 2, 0]).len.val < 6) ∧
    (1 ≤ (frm [0x39, 0, 0, 0, 0, 2, 0]).len.val ∧ minLenOf .six (frm [0x39, 0, 0, 0, 0, 2, 0]).data.d0 = some 8 ∧
      (frm [0x39, 0, 0, 0, 0, 2, 0]).len.val < 8) := by decide

/-- The last index inside a list, the first beyond it, and 255. -/
theorem witness_StatusLookupNeverLeavesTheList :
    (3 ≤ (frm [0xF5, 3, 0]).len.val ∧ namesOf (frm [0xF5, 3, 0]).data.d0 =
      some [.fail, .started, .complete, .endLimitStop] ∧ (frm [0xF5, 3, 0]).data.d1.toNat < 4) ∧
    (namesOf (frm [0xF5, 4, 0]).data.d0 = some [.fail, .started, .complete, .endLimitStop] ∧
      4 ≤ (frm [0xF5, 4, 0]).data.d1.toNat) ∧
    (namesOf (frm [0x82, 0xFF, 0]).data.d0 = some [.fail, .success] ∧ 2 ≤ (frm [0x82, 0xFF, 0]).data.d1.toNat) := by
  decide

/-- Two states with different histories and one configuration. -/
theorem witness_DecoderSeesTheFrameOnly :
    (openState []).cfg = ({ drainState [] with sent := [⟨0, frm [0x30], 1⟩] } : State).cfg ∧
    openState [] ≠ { drainState [] with sent := [⟨0, frm [0x30], 1⟩] } := by decide

/-- Two different frames that agree below their length. -/
theorem witness_IdentifierAndLanesAboveLengthAreNotRead :
    (⟨1, 3, ⟨0x3A, 1, 0x3C, 0, 0, 0, 0, 0⟩⟩ : Frame).len = (⟨2, 3, ⟨0x3A, 1, 0x3C, 9, 8, 7, 6, 5⟩⟩ : Frame).len ∧
    frameBytes ⟨1, 3, ⟨0x3A, 1, 0x3C, 0, 0, 0, 0, 0⟩⟩ = frameBytes ⟨2, 3, ⟨0x3A, 1, 0x3C, 9, 8, 7, 6, 5⟩⟩ := by decide

/-- A frame of the minimum length and a longer one with another checksum byte. -/
theorem witness_ChecksumLaneAndSurplusAreNotExamined :
    minLenOf .four (frm [0x3A, 1, 0x3C]).data.d0 = some 3 ∧ 3 ≤ (frm [0x3A, 1, 0x3C]).len.val ∧
    3 ≤ (frm [0x3A, 1, 0xFF, 9, 9]).len.val ∧
    (frameBytes (frm [0x3A, 1, 0x3C])).take 2 = (frameBytes (frm [0x3A, 1, 0xFF, 9, 9])).take 2 := by decide

/-- The greatest positive and the least negative pattern of a width, and all ones. -/
theorem witness_SignExtensionIsTwosComplement :
    0x7FFF < 2 ^ (8 * widthBytes .w16) ∧ 0x8000 < 2 ^ (8 * widthBytes .w16) ∧ 0xFFFFFFFF < 2 ^ (8 * widthBytes .w32) ∧
    0x800000000000 < 2 ^ (8 * widthBytes .w48) ∧ 0xFFFFFFFFFFFF < 2 ^ (8 * widthBytes .w48) := by decide

/-- Both ends of the range of a 48-bit field. -/
theorem witness_DegreesAreExact :
    ((-2 : Int) ^ 47 ≤ -140737488355328 ∧ (-140737488355328 : Int) < 2 ^ 47) ∧
    (-2 ^ 47 ≤ (140737488355327 : Int) ∧ (140737488355327 : Int) < 2 ^ 47) := by decide

theorem witness_OutputPortsFollowTheBinding :
    0 < 2 ^ (8 * widthBytes .w16) ∧ 0x80000000 < 2 ^ (8 * widthBytes .w32) := by decide

theorem witness_DecodeOfEncodedPortsIsTheCommand :
    encodePorts (.moveRel 1 1 3000 255 0xFFFFFF) = some ⟨30, 1, 0x10BB8FFFFFFFF⟩ := by decide

/-- The last index that selects a command, and the first and the last that select none. -/
theorem witness_PortIndexSelectsACommandOrIsRefused :
    (EncPorts.mk 0 1 0).wellFormed = true ∧ (EncPorts.mk 39 1 5).wellFormed = true ∧
    (EncPorts.mk 40 1 0).wellFormed = false ∧ (EncPorts.mk 63 1 0).wellFormed = false := by decide

theorem witness_FrameDataReadsBack :
    (Instr.respOther 0x50).wellFormed = true ∧ (Instr.speed 0x101 0 0x1000 7).wellFormed = true := by decide

theorem witness_DispatchIsExact : 1 ≤ (frm [0x3A]).len.val ∧ 1 ≤ (frm [0, 1, 2, 3, 4, 5, 6, 7]).len.val := by decide

theorem witness_AssembledLineIsTheCommand :
    disassemble (.moveAbs 1 600 2 (BitVec.ofInt 24 (-3200))) = some ⟨"MOVE_ABS", [1, 600, 2, -3200]⟩ := by decide

/-- One state for each of the three clauses, the two frames of length 1 and 8. -/
theorem witness_StepRunsTheDecodedInstruction :
    ((openState [.encodeAndSend 0 ⟨9, 1, 4⟩]).calls = [.encodeAndSend 0 ⟨9, 1, 4⟩] ∧
      decodeCommand ⟨9, 1, 4⟩ = .ok (.setMode 1 4)) ∧
    ((openState [.decode (rxOf (frm [0x50]))]).calls = [.decode (rxOf (frm [0x50]))] ∧
      portFrame (rxOf (frm [0x50])) = some (frm [0x50]) ∧ 1 ≤ (frm [0x50]).len.val) ∧
    ((drainState [frm [1, 2, 3, 4, 5, 6, 7, 8]]).calls = [.drain 3 5] ∧
      (transportOf (drainState [frm [1, 2, 3, 4, 5, 6, 7, 8]]) 3).opened = true ∧
      receiveAnswer 3 (drainState [frm [1, 2, 3, 4, 5, 6, 7, 8]]) = some (frm [1, 2, 3, 4, 5, 6, 7, 8]) ∧
      1 ≤ (frm [1, 2, 3, 4, 5, 6, 7, 8]).len.val) := by decide

/-- An encode-and-send, a decode and a drain, from idle states. -/
theorem witness_EveryStepLeavesCoreEmpty :
    (Idle (openState [.encodeAndSend 0 ⟨9, 1, 4⟩]) ∧ ∃ t, step (openState [.encodeAndSend 0 ⟨9, 1, 4⟩]) = .next t) ∧
    (Idle (openState [.decode (rxOf (frm [0x50]))]) ∧ ∃ t, step (openState [.decode (rxOf (frm [0x50]))]) = .next t) ∧
    (Idle (drainState [frm [0x3A, 1, 0]]) ∧ ∃ t, step (drainState [frm [0x3A, 1, 0]]) = .next t) :=
  ⟨⟨⟨rfl, rfl, rfl, rfl⟩, _, rfl⟩, ⟨⟨rfl, rfl, rfl, rfl⟩, _, rfl⟩, ⟨⟨rfl, rfl, rfl, rfl⟩, _, rfl⟩⟩

/-- A state with a frame in RX, under a step and under an instruction. -/
theorem witness_BuffersStayCanonical :
    Canonical (takeFrame (frm [0x3A, 1, 0x3C]) (drainState [])) ∧
    (∃ t, step (takeFrame (frm [0x3A, 1, 0x3C]) (drainState [])) = .next t) ∧
    (∃ t, exec .resp3A (takeFrame (frm [0x3A, 1, 0x3C]) (drainState [])) = .next t) ∧
    (∃ t, exec (.goHome 1) (takeFrame (frm [0x3A, 1, 0x3C]) (drainState [])) = .next t) :=
  ⟨⟨rfl, rfl, rfl⟩, ⟨_, rfl⟩, ⟨_, rfl⟩, ⟨_, rfl⟩⟩

/-- Each kind of call, and none. -/
theorem witness_StepsOnlyAddToTheBoundary :
    (∃ t, step State.reset = .next t) ∧ (∃ t, step (openState [.openTransport 7]) = .next t) ∧
    (∃ t, step (openState [.encodeAndSend 0 ⟨38, 1, 0⟩]) = .next t) ∧ (∃ t, step (drainState []) = .next t) ∧
    (∃ t, step (drainState [frm [0x3A, 1, 0x3C]]) = .next t) :=
  ⟨⟨_, rfl⟩, ⟨_, rfl⟩, ⟨_, rfl⟩, ⟨_, rfl⟩, ⟨_, rfl⟩⟩

/-- Two frames, and no frame. -/
theorem witness_DrainReportsEveryFrameInOrder :
    (Idle (drainState [frm [0x3A, 1, 0x3C], frm []]) ∧
      (transportOf (drainState [frm [0x3A, 1, 0x3C], frm []]) 3).opened = true ∧
      (drainState [frm [0x3A, 1, 0x3C], frm []]).calls = [.drain 3 5] ∧
      (transportOf (drainState [frm [0x3A, 1, 0x3C], frm []]) 3).deliveries =
        [frm [0x3A, 1, 0x3C], frm []].map some ++ none :: []) ∧
    (Idle (drainState []) ∧ (transportOf (drainState []) 3).deliveries = ([] : List Frame).map some ++ none :: []) :=
  ⟨⟨⟨rfl, rfl, rfl, rfl⟩, rfl, rfl, rfl⟩, ⟨rfl, rfl, rfl, rfl⟩, rfl⟩

theorem witness_HostOperationsReturnTheirResult :
    encodePorts (.rdEn 1) = some ⟨7, 1, 0⟩ ∧ portFrame (rxOf (frm [0x3A, 1, 0x3C])) = some (frm [0x3A, 1, 0x3C]) ∧
    decodedValue (openState []).cfg (frm [0x3A, 1, 0x3C]) = some (.status 0x3A 1 (.named .enabled)) ∧
    ((openState []).tx = Buffer.none ∧ (openState []).rx = Buffer.none ∧ (openState []).pr = .skipped ∧ (openState []).handle = 0) := by decide

/-- Both ends of the two ranges. -/
theorem witness_ReceivedLengthAboveEightIsRefused :
    (RxPorts.mk 1 9 ⟨0, 0, 0, 0, 0, 0, 0, 0⟩).wellFormed = false ∧
    (RxPorts.mk 1 15 ⟨0, 0, 0, 0, 0, 0, 0, 0⟩).wellFormed = false ∧
    (RxPorts.mk 1 8 ⟨0, 0, 0, 0, 0, 0, 0, 0⟩).wellFormed = true ∧
    (RxPorts.mk 1 0 ⟨0, 0, 0, 0, 0, 0, 0, 0⟩).wellFormed = true := by decide

/-- A use of the Transport with handle 0, of the one with handle 7 and of the one with handle 3, and a call that uses none. -/
theorem witness_OnlyThePassedTransportIsUsed :
    (∃ t, step (openState [.encodeAndSend 0 ⟨38, 1, 0⟩]) = .next t) ∧
    (∃ t, step (openState [.openTransport 7]) = .next t) ∧ (∃ t, step (drainState []) = .next t) ∧
    (∃ t, step (openState [.cksum 1 [2]]) = .next t) ∧
    (openState [.openTransport 7]).calls.head?.bind handleOf = some 7 ∧
    (drainState []).calls.head? = some (.drain 3 5) ∧
    (openState [.encodeAndSend 0 ⟨38, 1, 0⟩]).calls.head? = some (.encodeAndSend 0 ⟨38, 1, 0⟩) ∧
    (openState [.cksum 1 [2]]).calls.head?.bind handleOf = none :=
  ⟨⟨_, rfl⟩, ⟨_, rfl⟩, ⟨_, rfl⟩, ⟨_, rfl⟩, rfl, rfl, rfl, rfl⟩

end SerialElaboration

end Sys2Proof.Tests
end

/-! The input ports of an encode transaction (10_state.md R26): a field of `enc_arg`, and the command an index selects. -/

namespace Sys2Proof.Proofs

open Sys2Proof.Machine Sys2Proof.Laws

/-- An operand that stands alone on `enc_arg` reads back. -/
theorem argField_setWidth {w : Nat} (x : BitVec w) (hw : w ≤ 56) : argField (x.setWidth 56) 0 w = x := by
  refine BitVec.eq_of_getLsbD_eq fun k hk => ?_
  simp [argField, hk, show k < 56 by omega]

/-- A field inside the last of the packed operands does not see those before it. -/
theorem argField_append_low {n m : Nat} (x : BitVec n) (y : BitVec m) {start w : Nat} (h : start + w ≤ m) :
    argField ((x ++ y).setWidth 56) start w = argField (y.setWidth 56) start w := by
  refine BitVec.eq_of_getLsbD_eq fun k hk => ?_
  simp [argField, BitVec.getLsbD_append, hk, show start + k < m by omega]

/-- A field above the last of the packed operands is a field of those before it. -/
theorem argField_append_high {n m : Nat} (x : BitVec n) (y : BitVec m) {start w : Nat} (h : m ≤ start)
    (hnm : n + m ≤ 56) :
    argField ((x ++ y).setWidth 56) start w = argField (x.setWidth 56) (start - m) w := by
  refine BitVec.eq_of_getLsbD_eq fun k hk => ?_
  have hsub : start + k - m = start - m + k := by omega
  by_cases hn : start - m + k < n
  · simp [argField, BitVec.getLsbD_append, hk, hsub, show ¬ start + k < m by omega, show start + k < 56 by omega,
      show start - m + k < 56 by omega]
  · simp [argField, BitVec.getLsbD_append, hk, hsub, show ¬ start + k < m by omega,
      BitVec.getLsbD_of_ge x _ (Nat.le_of_not_lt hn)]

/-- Neighbouring fields of `enc_arg` are one field of both widths. -/
theorem argField_append_argField (arg : BitVec 56) {upper start n m : Nat} (h : upper = start + m) :
    argField arg upper n ++ argField arg start m = argField arg start (n + m) := by
  subst h
  refine BitVec.eq_of_getLsbD_eq fun k hk => ?_
  rw [BitVec.getLsbD_append]
  by_cases hm : k < m
  · simp [argField, hm, hk]
  · simp [argField, hm, hk, show k - m < n by omega, show start + m + (k - m) = start + k by omega]

/-- A field of no bits puts nothing on `enc_arg`. -/
theorem argField_width_zero (arg : BitVec 56) : (argField arg 0 0).setWidth 56 = 0 :=
  BitVec.eq_of_getLsbD_eq fun k _ => by simp [argField]

/-- The lowest field of `enc_arg` is `enc_arg` truncated. -/
theorem argField_zero (arg : BitVec 56) (w : Nat) : argField arg 0 w = arg.setWidth w := by
  refine BitVec.eq_of_getLsbD_eq fun k hk => ?_
  simp [argField, hk]

/-- The ports of a command carry one of the 40 indices. -/
theorem encodePorts_wellFormed {i : Instr} {p : EncPorts} (h : encodePorts i = some p) : p.wellFormed = true := by
  cases i <;> cases h <;> rfl

/-- The ports of a command select it. For packed operands the widths stay sums (`-Nat.reduceAdd`), as in the type of
`++`: so the rules of `argField` on a packed `enc_arg` apply. -/
theorem decodeCommand_encodePorts {i : Instr} {p : EncPorts} (h : encodePorts i = some p) :
    decodeCommand p = .ok i := by
  cases i with
  | setResponse | setHome | setZeroMode | speed | moveRel | moveAbs | moveAxis =>
    cases h
    simp [decodeCommand, argField_append_high, argField_append_low, argField_setWidth, -Nat.reduceAdd]
  | _ => cases h <;> simp [decodeCommand, argField_setWidth]

/-- The command selected has the ports given, but for the bits of `enc_arg` above its operands: the fields read are
neighbours, from bit 0 up, and together as wide as its row says. -/
theorem encodePorts_decodeCommand {p : EncPorts} {i : Instr} (h : decodeCommand p = .ok i) :
    encodePorts i = some ⟨p.op, p.id, (p.arg.setWidth (argBits p.op.toNat)).setWidth 56⟩ := by
  have fields : encodePorts i =
      some ⟨BitVec.ofNat 6 p.op.toNat, p.id, (argField p.arg 0 (argBits p.op.toNat)).setWidth 56⟩ := by
    unfold decodeCommand at h
    generalize p.op.toNat = n at h ⊢
    split at h <;> cases h <;>
      simp only [encodePorts, argField_append_argField, ← argField_width_zero p.arg, -Nat.reduceAdd] <;> rfl
  simpa [argField_zero] using fields

/-- An index of 0 to 39 selects a command. -/
theorem decodeCommand_of_wellFormed {p : EncPorts} (h : p.wellFormed = true) : ∃ i, decodeCommand p = .ok i := by
  have hlt : p.op.toNat < 40 := of_decide_eq_true h
  unfold decodeCommand
  generalize p.op.toNat = n at hlt ⊢
  interval_cases n <;> exact ⟨_, rfl⟩

/-- An index of 40 to 63 selects none. -/
theorem decodeCommand_of_not_wellFormed {p : EncPorts} (h : p.wellFormed = false) :
    decodeCommand p = .error (.commandIndex p.op) := by
  have hge : ¬ p.op.toNat < 40 := of_decide_eq_false h
  unfold decodeCommand
  split
  case h_41 => rfl
  all_goals omega

/-- Ports that select no command are refused by `encode_and_send` (10_state.md R26). -/
theorem performEncodeAndSend_of_error {p : EncPorts} {e : Reject} (h : decodeCommand p = .error e) (T : Handle)
    (s : State) : performEncodeAndSend T p s = .refused (.noSuchCommand p.op) := by
  simp only [performEncodeAndSend, h]

/-- Ports that select no command are refused by `encode` (10_state.md R26). -/
theorem performEncode_of_error {p : EncPorts} {e : Reject} (h : decodeCommand p = .error e) (s : State) :
    performEncode p s = .refused (.noSuchCommand p.op) := by
  simp only [performEncode, h, Except.toOption, Option.bind_none]

/-- Settles O43, from the two facts about the ports of a command, each by its constructors. -/
theorem decodeOfEncodedPortsIsTheCommand : Obligations.DecodeOfEncodedPortsIsTheCommand :=
  fun _ _ h => ⟨encodePorts_wellFormed h, decodeCommand_encodePorts h⟩

/-- Settles O44, by the two ranges of the index. -/
theorem portIndexSelectsACommandOrIsRefused : Obligations.PortIndexSelectsACommandOrIsRefused := by
  refine fun p => ⟨fun hw => ?_, fun hw s rest T => ?_⟩
  · obtain ⟨i, hi⟩ := decodeCommand_of_wellFormed hw
    exact ⟨i, hi, encodePorts_decodeCommand hi⟩
  · have herr := decodeCommand_of_not_wellFormed hw
    exact ⟨performEncodeAndSend_of_error herr T _, performEncode_of_error herr _⟩

end Sys2Proof.Proofs

/-! All that an operation of the host can do (47_transport_drain.md R248), and what every step keeps. -/

namespace Sys2Proof.Proofs

open Sys2Proof.Machine Sys2Proof.Laws

/-- The state after an `open` of the Transport with handle `T` (47_transport_drain.md R242). -/
def afterOpen (T : Handle) (s : State) : State :=
  { s with
    transports := setTransport s.transports T (afterOpenAnswer (openAnswer T s) (transportOf s T))
    oracleIndex := s.oracleIndex + 1
    returned := s.returned ++ [.openResult (openAnswer T s)] }

theorem performOpen_eq (T : Handle) (s : State) : performOpen T s = .next (afterOpen T s) := rfl

/-- An `open` takes an answer of the Transport opened and leaves every other one. -/
theorem transportOf_afterOpen (U : Handle) (s : State) (T : Handle) :
    transportOf (afterOpen U s) T =
      if U = T then afterOpenAnswer (openAnswer T s) (transportOf s T) else transportOf s T := by
  simp only [transportOf, afterOpen]
  split
  · subst T; exact transportAt_setTransport_self _ _ _
  · exact transportAt_setTransport_ne _ _ ‹_›

/-- An encode-and-send takes an answer of the Transport whose handle it was passed and leaves every other one. -/
theorem transportOf_afterSend (s : State) (id : Ident) (data : List Byte) (T : Handle) :
    transportOf (afterSend s id data) T =
      if s.handle = T then afterSendAnswer (transportOf s T) else transportOf s T := by
  simp only [transportOf, afterSend_transports]
  split
  · subst T; exact transportAt_setTransport_self _ _ _
  · exact transportAt_setTransport_ne _ _ ‹_›

/-- All that an operation of the host can do when it answers a next state: from which state, for which call, to which
state. A drain has two ends: the Transport answers `false`, or it delivers a frame. -/
inductive Performed (s : State) : Call → State → Prop where
  | opened (T : Handle) : Performed s (.openTransport T) (afterOpen T s)
  | encoded (p : EncPorts) (f : Frame) : Performed s (.encode p) { s with returned := s.returned ++ [.frame f] }
  | sent (T : Handle) (p : EncPorts) (id : Ident) (data : List Byte) (ho : (transportOf s T).opened = true) :
      Performed s (.encodeAndSend T p) (afterSend { s with handle := T } id data)
  | decoded (p : RxPorts) (f : Frame) (r : ParsedResponse) (hf : portFrame p = some f) :
      Performed s (.decode p) (returnParsed { takeFrame f s with pr := r })
  | drainEnded (T : Handle) (sink : Sink) (ho : (transportOf s T).opened = true) (hr : receiveAnswer T s = none) :
      Performed s (.drain T sink) { pollTransport T s with returned := s.returned ++ [.drained] }
  | drainedFrame (T : Handle) (sink : Sink) (f : Frame) (r : ParsedResponse) (ho : (transportOf s T).opened = true)
      (hr : receiveAnswer T s = some f) :
      Performed s (.drain T sink) (reportParsed sink
        { takeFrame f { pollTransport T s with calls := .drain T sink :: s.calls } with pr := r })
  | checksummed (id : Ident) (bytes : List Byte) :
      Performed s (.cksum id bytes) { s with returned := s.returned ++ [.checksum (cksum id bytes)] }

theorem performed_of_perform {c : Call} {s t : State} (h : perform c s = .next t) : Performed s c t := by
  cases c with
  | openTransport T =>
    obtain rfl : afterOpen T s = t := by simpa [perform, performOpen_eq] using h
    exact .opened T
  | encode p =>
    obtain ⟨f, rfl⟩ := performEncode_next h
    exact .encoded p f
  | encodeAndSend T p =>
    obtain ⟨ho, id, P, -, rfl⟩ := performEncodeAndSend_next h
    exact .sent T p id _ ho
  | decode p =>
    obtain ⟨f, r, hf, -, rfl⟩ := performDecode_next h
    exact .decoded p f r hf
  | drain T sink =>
    obtain ⟨ho, ⟨hr, rfl⟩ | ⟨f, r, hr, -, rfl⟩⟩ := performDrain_next h
    · exact .drainEnded T sink ho hr
    · exact .drainedFrame T sink f r ho hr
  | cksum id bytes =>
    cases h
    exact .checksummed id bytes

/-- A step that answers a next state has performed the caller's next call, if there is one. -/
theorem performed_of_step {s t : State} (h : step s = .next t) :
    (s.calls = [] ∧ t = s) ∨ ∃ c rest, s.calls = c :: rest ∧ Performed { s with calls := rest } c t := by
  obtain hnil | ⟨c, rest, hc, hp⟩ := step_next h
  · exact .inl hnil
  · exact .inr ⟨c, rest, hc, performed_of_perform hp⟩

section

variable {s t : State} {c : Call}

theorem Performed.idle (h : Performed s c t) (hs : Idle s) : Idle t := by
  obtain ⟨htx, hrx, hpr, hh⟩ := hs
  cases h with
  | opened | encoded | checksummed | drainEnded => exact ⟨htx, hrx, hpr, hh⟩
  | sent => exact ⟨rfl, hrx, hpr, rfl⟩
  | decoded | drainedFrame => exact ⟨htx, rfl, rfl, hh⟩

theorem Performed.cfg (h : Performed s c t) : t.cfg = s.cfg := by cases h <;> rfl

theorem Performed.returned (h : Performed s c t) : s.returned <+: t.returned := by
  cases h with
  | drainedFrame => exact ⟨[], List.append_nil _⟩
  | _ => exact ⟨_, rfl⟩

/-- A frame is sent by an encode-and-send only, and one at most. -/
theorem Performed.sent_cases (h : Performed s c t) :
    t.sent = s.sent ∨ ∃ T p f, c = .encodeAndSend T p ∧ t.sent = s.sent ++ [⟨T, f, s.cfg.sendTimeoutMs⟩] := by
  cases h with
  | sent T p id data => exact .inr ⟨T, p, frameOf id data, rfl, rfl⟩
  | _ => exact .inl rfl

/-- A receive and a report are made by a drain only, one of each at most, and never a report of `Skipped`. -/
theorem Performed.reports_cases (h : Performed s c t) :
    (t.polled = s.polled ∧ t.reports = s.reports) ∨
      ∃ T sink, c = .drain T sink ∧ t.polled = s.polled ++ [⟨T, s.cfg.recvTimeoutMs⟩] ∧
        (t.reports = s.reports ∨ ∃ r, r ≠ .skipped ∧ t.reports = s.reports ++ [⟨sink, r⟩]) := by
  cases h with
  | drainEnded T sink => exact .inr ⟨T, sink, rfl, rfl, .inl rfl⟩
  | drainedFrame T sink f r =>
    refine .inr ⟨T, sink, rfl, rfl, ?_⟩
    by_cases hr : r = .skipped
    · exact .inl (by simp [hr])
    · exact .inr ⟨r, hr, by simp [hr]⟩
  | _ => exact .inl ⟨rfl, rfl⟩

/-- An operation leaves every Transport but the one whose handle it was passed. -/
theorem Performed.transportOf_of_ne (h : Performed s c t) {T : Handle} (hT : handleOf c ≠ some T) :
    transportOf t T = transportOf s T := by
  cases h with
  | opened U => exact (transportOf_afterOpen U s T).trans (if_neg fun e => hT (congrArg some e))
  | sent U p id data => exact (transportOf_afterSend _ id data T).trans (if_neg fun e => hT (congrArg some e))
  | drainEnded U | drainedFrame U =>
    exact (transportOf_pollTransport U s T).trans (if_neg fun e => hT (congrArg some e))
  | encoded | decoded | checksummed => rfl

end

section

variable {s t : State} {T : Handle}

theorem Performed.transportOf_send {p : EncPorts} (h : Performed s (.encodeAndSend T p) t) :
    transportOf t T = afterSendAnswer (transportOf s T) := by
  cases h with
  | sent _ _ id data => exact (transportOf_afterSend _ id data T).trans (if_pos rfl)

theorem Performed.transportOf_drain {sink : Sink} (h : Performed s (.drain T sink) t) :
    transportOf t T = afterReceiveAnswer (transportOf s T) := by
  cases h <;> exact (transportOf_pollTransport T s T).trans (if_pos rfl)

theorem Performed.of_open (h : Performed s (.openTransport T) t) : t = afterOpen T s := by cases h; rfl

/-- Only an `open` changes a connection, and only its own (47_transport_drain.md R242). -/
theorem Performed.opened_eq {c : Call} (h : Performed s c t) (hc : c ≠ .openTransport T) :
    (transportOf t T).opened = (transportOf s T).opened := by
  by_cases hT : handleOf c = some T
  · cases c with
    | openTransport U => cases hT; exact absurd rfl hc
    | encodeAndSend U p => cases hT; rw [h.transportOf_send]; rfl
    | drain U sink => cases hT; rw [h.transportOf_drain]; rfl
    | encode | decode | cksum => cases hT
  · rw [h.transportOf_of_ne hT]

end

/-- Settles O50: no operation leaves a frame, a value or a handle behind. -/
theorem everyStepLeavesCoreEmpty : Obligations.EveryStepLeavesCoreEmpty := by
  intro s t hs h
  obtain ⟨-, rfl⟩ | ⟨c, rest, -, hp⟩ := performed_of_step h
  · exact hs
  · exact hp.idle hs

/-- Settles O53, from what an operation does to each field of the boundary. -/
theorem stepsOnlyAddToTheBoundary : Obligations.StepsOnlyAddToTheBoundary := by
  intro s t h
  obtain ⟨-, rfl⟩ | ⟨c, rest, hc, hp⟩ := performed_of_step h
  · exact ⟨rfl, fun _ _ => rfl, ⟨[], List.append_nil _⟩, .inl rfl, .inl ⟨rfl, rfl⟩⟩
  · rw [hc, List.head?_cons]
    simp only [Option.some.injEq]
    exact ⟨hp.cfg, fun _ hne => hp.opened_eq fun e => hne (congrArg some e), hp.returned, hp.sent_cases,
      hp.reports_cases⟩

/-- Settles O57, from what an operation does to the Transport it is passed and to every other one. -/
theorem onlyThePassedTransportIsUsed : Obligations.OnlyThePassedTransportIsUsed := by
  intro s t h T
  obtain ⟨hc, rfl⟩ | ⟨c, rest, hc, hp⟩ := performed_of_step h
  · simp [hc]
  · rw [hc, List.head?_cons]
    refine ⟨fun hT => hp.transportOf_of_ne hT, fun p he => ?_, fun sink he => ?_, fun he => ?_⟩ <;> cases he
    · exact hp.transportOf_send
    · exact hp.transportOf_drain
    · obtain rfl := hp.of_open
      rw [transportOf_afterOpen, if_pos rfl]
      exact ⟨rfl, rfl, rfl, rfl⟩

/-- Ports of a length of 0 to 8 hold a frame, others none (10_state.md R27). -/
theorem portFrame_isSome (p : RxPorts) : (portFrame p).isSome = p.wellFormed := by
  unfold portFrame RxPorts.wellFormed
  split <;> simp <;> omega

/-- A frame on the ports is decoded to a next state, whatever it holds (45_resp_decoder.md R183). -/
theorem performDecode_of_frame {p : RxPorts} {f : Frame} (h : portFrame p = some f) (s : State) :
    ∃ t, performDecode p s = .next t := by
  obtain ⟨r, hr⟩ := decodeRx_total (takeFrame f s)
  exact ⟨returnParsed { takeFrame f s with pr := r }, by simp only [performDecode, h, hr, mapNext]⟩

/-- Settles O56, by whether the ports hold a frame. -/
theorem receivedLengthAboveEightIsRefused : Obligations.ReceivedLengthAboveEightIsRefused := by
  refine fun s rest p => ⟨fun hw => ?_, fun hw => ?_⟩ <;> rw [step_cons rfl, perform]
  · have hnone : portFrame p = none := by simpa [hw] using portFrame_isSome p
    simp only [performDecode, hnone]
  · obtain ⟨f, hf⟩ := Option.isSome_iff_exists.mp ((portFrame_isSome p).trans hw)
    obtain ⟨t, ht⟩ := performDecode_of_frame hf { s with calls := rest }
    rw [ht, isNext]

end Sys2Proof.Proofs

/-! The output ports of a decode transaction (10_state.md R27). -/

namespace Sys2Proof.Proofs

open Sys2Proof.Machine Sys2Proof.Laws

/-- The upper bits that a set sign bit fills (00_scope.md R10) are ORed in without a carry. -/
theorem or_upperBits_eq_add {W u : Nat} (hW : W ≤ 64) (hu : u < 2 ^ W) :
    u ||| (2 ^ 64 - 2 ^ W) = 2 ^ 64 - 2 ^ W + u := by
  have hsplit : 2 ^ 64 - 2 ^ W = 2 ^ W * (2 ^ (64 - W) - 1) := by
    rw [Nat.mul_sub, ← Nat.pow_add, Nat.add_sub_cancel' hW, Nat.mul_one]
  rw [hsplit, Nat.two_pow_add_eq_or_of_lt hu, Nat.or_comm]

/-- The integer of a pattern, put on 64 bits, is the pattern with its sign bit replicated (00_scope.md R10). -/
theorem ofInt_sext {W u : Nat} (hW : W ≤ 64) (hu : u < 2 ^ W) : BitVec.ofInt 64 (sext W u) = sext64 W u := by
  unfold sext sext64
  have hpow : 2 ^ W ≤ 2 ^ 64 := Nat.pow_le_pow_right (by decide) hW
  split
  · rw [← BitVec.ofNat_or, or_upperBits_eq_add hW hu]
    have hcast : ((2 ^ 64 - 2 ^ W + u : Nat) : Int) = 2 ^ 64 + ((u : Int) - 2 ^ W) := by
      rw [Nat.cast_add, Nat.cast_sub hpow]
      push_cast
      ring
    refine BitVec.eq_of_toNat_eq ?_
    rw [← BitVec.ofInt_natCast, hcast, BitVec.toNat_ofInt, BitVec.toNat_ofInt, Nat.cast_pow, Nat.cast_ofNat,
      Int.add_emod_left]
  · exact BitVec.ofInt_natCast 64 u

theorem widthBits_eq (w : SignedWidth) : widthBits w = BitVec.ofNat 6 (8 * widthBytes w) := by cases w <;> rfl

/-- Every signed field fits the value port. -/
theorem widthBytes_le (w : SignedWidth) : 8 * widthBytes w ≤ 64 := by cases w <;> decide

/-- Settles O42: the value port by sign extension on 64 bits, the other kinds by the binding. -/
theorem outputPortsFollowTheBinding : Obligations.OutputPortsFollowTheBinding := by
  refine ⟨fun code w u hu => ?_, rfl, fun _ _ => rfl, fun _ _ _ => ⟨rfl, rfl⟩⟩
  rw [prPorts, ofInt_sext (widthBytes_le w) hu, widthBits_eq]

end Sys2Proof.Proofs

/-! The canonical form of the buffers and of the Transports (20_memory.md R40), which every operation keeps. -/

namespace Sys2Proof.Proofs

open Sys2Proof.Machine Sys2Proof.Laws

section

variable {s t : State}

/-- A send empties TX and updates one Transport; RX stays. -/
theorem sendFrame_canonical (b : Buffer) (hs : Canonical s) : Canonical (sendFrame { s with tx := b }) := by
  obtain ⟨-, hrx, htr⟩ := hs
  exact ⟨wf_nil, hrx, setTransport_wf _ _ htr⟩

/-- A command ends in a send, and a response row changes the value only. -/
theorem exec_canonical {i : Instr} (hs : Canonical s) (h : exec i s = .next t) : Canonical t := by
  cases hp : encodePorts i with
  | some p =>
    obtain ⟨P, -, -, -, -, hx⟩ := exec_command hp
    rw [hx] at h
    obtain ⟨-, b, -, rfl⟩ := encodeAndSend_next h
    exact sendFrame_canonical b hs
  | none =>
    obtain ⟨r, hr⟩ := exec_response hp s
    cases hr.symm.trans h
    exact hs

/-- An operation leaves a buffer as it was or empties it, and updates at most one Transport. -/
theorem Performed.canonical {c : Call} (h : Performed s c t) (hs : Canonical s) : Canonical t := by
  obtain ⟨htx, hrx, htr⟩ := hs
  cases h with
  | encoded | checksummed => exact ⟨htx, hrx, htr⟩
  | opened | drainEnded => exact ⟨htx, hrx, setTransport_wf _ _ htr⟩
  | sent => exact ⟨wf_nil, hrx, setTransport_wf _ _ htr⟩
  | decoded => exact ⟨htx, wf_nil, htr⟩
  | drainedFrame => exact ⟨htx, wf_nil, setTransport_wf _ _ htr⟩

end

/-- Settles O51: a step by the operation it performs, an instruction by whether it is a command or a response row. -/
theorem buffersStayCanonical : Obligations.BuffersStayCanonical := by
  refine ⟨fun s t hs h => ?_, fun i s t hs h => exec_canonical hs h⟩
  obtain ⟨-, rfl⟩ | ⟨c, rest, -, hp⟩ := performed_of_step h
  · exact hs
  · exact hp.canonical hs

end Sys2Proof.Proofs

/-! The operands in the frame data of a command, and the frame data read back (30_encoding.md R66 to R69, R76). -/

namespace Sys2Proof.Proofs

open Sys2Proof.Machine Sys2Proof.Laws

/-- A 16-bit operand is its two bytes, the most significant first (30_encoding.md R67). -/
theorem append_byteAt_pair (x : BitVec 16) : byteAt x 8 ++ byteAt x 0 = x := by
  refine BitVec.eq_of_getLsbD_eq fun k hk => ?_
  rw [BitVec.getLsbD_append]
  by_cases h : k < 8
  · simp [byteAt, h]
  · simp [byteAt, h, show k - 8 < 8 by omega, show 8 + (k - 8) = k by omega]

/-- A 24-bit operand is its three bytes, the most significant first (30_encoding.md R68). -/
theorem append_byteAt_triple (m : BitVec 24) : byteAt m 16 ++ byteAt m 8 ++ byteAt m 0 = m := by
  refine BitVec.eq_of_getLsbD_eq fun k hk => ?_
  rw [BitVec.getLsbD_append, BitVec.getLsbD_append]
  by_cases h : k < 8
  · simp [byteAt, h]
  · by_cases h' : k - 8 < 8
    · simp [byteAt, h, h', show 8 + (k - 8) = k by omega]
    · simp [byteAt, h, h', show k - 8 - 8 < 8 by omega, show 16 + (k - 8 - 8) = k by omega]

/-- Equal bytes are equal 16-bit operands. -/
theorem byteAt_pair_eq_iff {x y : BitVec 16} : byteAt x 8 = byteAt y 8 ∧ byteAt x 0 = byteAt y 0 ↔ x = y := by
  refine ⟨fun ⟨h8, h0⟩ => ?_, fun h => h ▸ ⟨rfl, rfl⟩⟩
  rw [← append_byteAt_pair x, h8, h0, append_byteAt_pair]

/-- Equal bytes are equal 24-bit operands. -/
theorem byteAt_triple_eq_iff {x y : BitVec 24} :
    byteAt x 16 = byteAt y 16 ∧ byteAt x 8 = byteAt y 8 ∧ byteAt x 0 = byteAt y 0 ↔ x = y := by
  refine ⟨fun ⟨h16, h8, h0⟩ => ?_, fun h => h ▸ ⟨rfl, rfl, rfl⟩⟩
  rw [← append_byteAt_triple x, h16, h8, h0, append_byteAt_triple]

/-- The bytes of a 16-bit operand are zero exactly when it is. -/
theorem byteAt_pair_eq_zero_iff {x : BitVec 16} : byteAt x 8 = 0 ∧ byteAt x 0 = 0 ↔ x = 0 :=
  byteAt_pair_eq_iff (y := 0)

/-- The bytes of a 24-bit operand are zero exactly when it is. -/
theorem byteAt_triple_eq_zero_iff {x : BitVec 24} : byteAt x 16 = 0 ∧ byteAt x 8 = 0 ∧ byteAt x 0 = 0 ↔ x = 0 :=
  byteAt_triple_eq_iff (y := 0)

theorem low12_eq_setWidth (s : BitVec 16) : low12 s = (s.setWidth 12).setWidth 16 := by
  refine BitVec.eq_of_toNat_eq ?_
  have hmask : (low12 s).toNat = s.toNat % 2 ^ 12 := Nat.and_two_pow_sub_one_eq_mod s.toNat 12
  rw [hmask, BitVec.toNat_setWidth, BitVec.toNat_setWidth]
  omega

theorem lowId_eq_setWidth (id : Ident) : lowId id = (id.setWidth 8).setWidth 32 := by
  refine BitVec.eq_of_toNat_eq ?_
  have hmask : (lowId id).toNat = id.toNat % 2 ^ 8 := Nat.and_two_pow_sub_one_eq_mod id.toNat 8
  rw [hmask, BitVec.toNat_setWidth, BitVec.toNat_setWidth]
  omega

/-- Bits 6 to 4 of the packed lane are zero (30_encoding.md R69). -/
theorem pk_and_reserved (d : BitVec 1) (s : BitVec 16) : pk d s &&& 0x70 = 0 := by
  refine BitVec.eq_of_getLsbD_eq fun i h => ?_
  rcases lane_cases h with rfl | rfl | rfl | rfl | rfl | rfl | rfl | rfl <;> simp [pk]

/-- Bit 7 of the packed lane is the direction (30_encoding.md R69). -/
theorem extractLsb'_pk_direction (d : BitVec 1) (s : BitVec 16) : (pk d s).extractLsb' 7 1 = d := by
  refine BitVec.eq_of_getLsbD_eq fun i h => ?_
  obtain rfl : i = 0 := by omega
  simp [pk]

/-- The packed lane sees the low 12 bits of the speed only (30_encoding.md R69). -/
theorem pk_low12 (d : BitVec 1) (s : BitVec 16) : pk d (low12 s) = pk d s := by
  refine BitVec.eq_of_getLsbD_eq fun i h => ?_
  rw [low12_eq_setWidth]
  rcases lane_cases h with rfl | rfl | rfl | rfl | rfl | rfl | rfl | rfl <;> simp [pk]

theorem byteAt_low12 (s : BitVec 16) : byteAt (low12 s) 0 = byteAt s 0 := by
  refine BitVec.eq_of_getLsbD_eq fun i h => ?_
  simp [low12_eq_setWidth, byteAt, show i < 12 by omega, show i < 16 by omega]

/-- The low half of the packed lane is the upper byte of the truncated speed (30_encoding.md R69). -/
theorem extractLsb'_pk_speed (d : BitVec 1) (s : BitVec 16) :
    0#4 ++ (pk d s).extractLsb' 0 4 = byteAt (low12 s) 8 := by
  refine BitVec.eq_of_getLsbD_eq fun i h => ?_
  rw [BitVec.getLsbD_append, low12_eq_setWidth]
  rcases lane_cases h with rfl | rfl | rfl | rfl | rfl | rfl | rfl | rfl <;> simp [pk, byteAt]

/-- A packed pair reads back as the direction and the truncated speed (30_encoding.md R69). -/
theorem unpack_pk (d : BitVec 1) (s : BitVec 16) : unpack (pk d s) (byteAt s 0) = some (d, low12 s) := by
  rw [unpack, if_pos (pk_and_reserved d s), extractLsb'_pk_direction, extractLsb'_pk_speed, ← byteAt_low12,
    append_byteAt_pair]

/-- A packed pair is zero exactly when direction and speed, as far as it carries it, are. -/
theorem pk_eq_zero_iff {d : BitVec 1} {s : BitVec 16} : pk d s = 0 ∧ byteAt s 0 = 0 ↔ d = 0 ∧ low12 s = 0 := by
  constructor
  · rintro ⟨hp, hb⟩
    have h : unpack 0 0 = some (d, low12 s) := by rw [← unpack_pk, hp, hb]
    have h0 : unpack 0 0 = some (0, 0) := by decide
    obtain ⟨hd, hs⟩ := Prod.mk.inj (Option.some.inj (h.symm.trans h0))
    exact ⟨hd, hs⟩
  · rintro ⟨rfl, hs⟩
    rw [← pk_low12, ← byteAt_low12, hs]
    decide

/-- The checksum lane gives away the low byte of the identifier (40_checksum.md R91). -/
theorem identOf_cksum (id : Ident) (P : List Byte) : identOf P (cksum id P) = lowId id := by
  have hsum : cksum id P = id.setWidth 8 + BitVec.ofNat 8 (byteSum P) :=
    BitVec.eq_of_toNat_eq (by simp [cksum])
  rw [identOf, hsum, BitVec.add_sub_cancel, lowId_eq_setWidth]

/-- The fields of a full-speed move are zero exactly when speed and target are (44_cmd_motion_maint.md R156, R158). -/
theorem plainFields_eq_zero_iff {v : BitVec 16} {m : BitVec 24} :
    (byteAt v 8 = 0 ∧ byteAt v 0 = 0 ∧ byteAt m 16 = 0 ∧ byteAt m 8 = 0 ∧ byteAt m 0 = 0) ↔ v = 0 ∧ m = 0 := by
  rw [← and_assoc, byteAt_pair_eq_zero_iff, byteAt_triple_eq_zero_iff]

/-- The fields of a packed move are zero exactly when direction, truncated speed and target are
(44_cmd_motion_maint.md R154). -/
theorem packedFields_eq_zero_iff {d : BitVec 1} {v : BitVec 16} {m : BitVec 24} :
    (pk d v = 0 ∧ byteAt v 0 = 0 ∧ byteAt m 16 = 0 ∧ byteAt m 8 = 0 ∧ byteAt m 0 = 0) ↔
      d = 0 ∧ low12 v = 0 ∧ m = 0 := by
  rw [← and_assoc, pk_eq_zero_iff, byteAt_triple_eq_zero_iff, and_assoc]

/-- A frame of a command row is read as that row (30_encoding.md R76), format by format: the moves by whether their
fields are zero, the rows of the other formats from their bytes. -/
theorem parseCommandFrame_encode {i : Instr} {p : EncPorts} (h : encodePorts i = some p) :
    parseCommandFrame (encode i) = some (frameReading i) := by
  cases i with
  | rdEncCarry | rdEncAdd | rdSpeed | rdPulses | rdIo | rdEncRaw | rdAngleErr | rdEn | rdProtect | goHome | setZero
  | restore | restart | estop =>
    simp [encode, sealFrame, parseCommandFrame, parseT2, frameReading, identOf_cksum]
  | setMode | setMicrostep | setEnActive | setDir | setAutoSleep | setProtect | setInterp | setHoldCurrent | setBusRate
  | setKeyLock | rdParam | calibrate =>
    simp [encode, sealFrame, parseCommandFrame, parseT3, frameReading, identOf_cksum]
  | setCurrent | setBusAddr | setGroupAddr | setResponse =>
    simp [encode, sealFrame, parseCommandFrame, parseT4, frameReading, identOf_cksum, append_byteAt_pair]
  | setZeroMode => simp [encode, sealFrame, parseCommandFrame, parseT6, frameReading, identOf_cksum]
  | setHome =>
    simp [encode, sealFrame, parseCommandFrame, parseT8, frameReading, identOf_cksum, append_byteAt_pair]
  | stopSpeed | stopRel | stopAbs | stopAxis =>
    simp [encode, sealFrame, parseCommandFrame, parseT5, parseT8, frameReading, identOf_cksum]
  | speed =>
    simp only [encode, sealFrame, ← pk_eq, parseCommandFrame, List.cons_append, List.nil_append, parseT5,
      BitVec.reduceToNat, frameReading, pk_eq_zero_iff, unpack_pk, identOf_cksum]
    split <;> rfl
  | moveRel =>
    simp only [encode, sealFrame, ← pk_eq, parseCommandFrame, List.cons_append, List.nil_append, parseT8,
      BitVec.reduceToNat, decide_eq_true_eq, frameReading, packedFields_eq_zero_iff, unpack_pk, identOf_cksum,
      append_byteAt_triple]
    split <;> rfl
  | moveAbs | moveAxis =>
    simp only [encode, sealFrame, parseCommandFrame, List.cons_append, List.nil_append, parseT8, BitVec.reduceToNat,
      decide_eq_true_eq, frameReading, plainFields_eq_zero_iff, identOf_cksum, append_byteAt_pair,
      append_byteAt_triple]
  | _ => cases h

/-- Bytes of a command row, at most 8, are read as that command. -/
theorem decodeFrame_of_parse {bytes : List Byte} {i : Instr} (h : parseCommandFrame bytes = some i)
    (hlen : bytes.length ≤ 8) : decodeFrame bytes = .ok i := by
  cases bytes with
  | nil => cases h
  | cons k rest => simp only [decodeFrame, if_neg (Nat.not_lt.mpr hlen), h]

/-- A code that is not listed goes to the fallback (45_resp_decoder.md R178). -/
theorem dispatch_of_not_mem {code : Byte} (h : responseCodes.contains code = false) :
    dispatch code = .respOther code := by
  revert code; decide

/-- The words of a response row are the lane 0 that selects it (45_resp_decoder.md R172). -/
theorem encode_response {i : Instr} (h : encodePorts i = none) (hw : i.wellFormed = true) :
    ∃ code, encode i = [code] ∧ dispatch code = i := by
  cases i with
  | respOther code => exact ⟨code, rfl, dispatch_of_not_mem (by simpa [Instr.wellFormed] using hw)⟩
  | _ => cases h <;> exact ⟨_, rfl, rfl⟩

/-- A response row carries no operand, so its words lose nothing. -/
theorem frameReading_response {i : Instr} (h : encodePorts i = none) : frameReading i = i := by
  cases i <;> cases h <;> rfl

/-- The frame data of a command has at most 8 bytes (30_encoding.md R61). -/
theorem encode_length_le {i : Instr} {p : EncPorts} (h : encodePorts i = some p) : (encode i).length ≤ 8 := by
  obtain ⟨P, -, -, hP, he, -⟩ := exec_command h
  rw [he, List.length_append]
  exact Nat.succ_le_succ hP

/-- Settles O45: a command by its row, a response row by its lane 0. -/
theorem frameDataReadsBack : Obligations.FrameDataReadsBack := by
  intro i hw
  cases h : encodePorts i with
  | some p => exact decodeFrame_of_parse (parseCommandFrame_encode h) (encode_length_le h)
  | none =>
    obtain ⟨code, he, hd⟩ := encode_response h hw
    rw [he, frameReading_response h, ← hd]
    rfl

end Sys2Proof.Proofs

/-! What a command hands to `send` (47_transport_drain.md R243), and when two commands hand it the same frame. -/

namespace Sys2Proof.Proofs

open Sys2Proof.Machine Sys2Proof.Laws

/-- Settles O12: a command is encode-and-send of its raw payload, whose sealed form is its frame data. -/
theorem everyCommandSendsItsTableFrame : Obligations.EveryCommandSendsItsTableFrame := by
  intro i p s h ho
  obtain ⟨P, -, -, hP, he, hx⟩ := exec_command h
  rw [hx, he]
  exact encodeAndSend_open p.id hP ho

/-- The frame a command sends is the one of its row. -/
theorem frameSent_command {i : Instr} {p : EncPorts} (h : encodePorts i = some p) :
    frameSent i = some (frameOf p.id (encode i)) := by
  rw [frameSent, everyCommandSendsItsTableFrame i p openedReset h (by decide)]
  rfl

/-- The eight lanes of a frame are its bytes and zeros above (00_scope.md R11). -/
theorem laneList_frameOf (id : Ident) {s : List Byte} (h : s.length ≤ 8) :
    laneList (frameOf id s).data = s ++ List.replicate (8 - s.length) 0 := by
  change (List.range 8).map (s.getD · 0) = _
  refine List.ext_getElem (by simp; omega) fun k hk _ => ?_
  by_cases hs : k < s.length
  · simp [hs]
  · simp [List.getElem_append_right (Nat.le_of_not_lt hs), Nat.le_of_not_lt hs]

theorem frameOf_len (id : Ident) {s : List Byte} (h : s.length ≤ 8) : (frameOf id s).len.val = s.length :=
  Nat.mod_eq_of_lt (Nat.lt_succ_of_le h)

/-- The meaningful bytes of a frame formed of at most 8 bytes are those bytes (00_scope.md R11). -/
theorem frameBytes_frameOf (id : Ident) {s : List Byte} (h : s.length ≤ 8) : frameBytes (frameOf id s) = s := by
  rw [frameBytes, laneList_frameOf id h, frameOf_len id h, List.take_left]

/-- Frames of at most 8 bytes are equal exactly when identifiers and bytes are. -/
theorem frameOf_inj {id id' : Ident} {s s' : List Byte} (h : s.length ≤ 8) (h' : s'.length ≤ 8) :
    frameOf id s = frameOf id' s' ↔ id = id' ∧ s = s' := by
  refine ⟨fun e => ⟨congrArg Frame.id e, ?_⟩, fun ⟨hid, hs⟩ => hid ▸ hs ▸ rfl⟩
  rw [← frameBytes_frameOf id h, e, frameBytes_frameOf id' h']

/-- Two commands send the same frame exactly when their identifiers and their raw payloads are the same. -/
theorem frameSent_eq_iff {i j : Instr} {p q : EncPorts} {P Q : List Byte} (hi : encodePorts i = some p)
    (hj : encodePorts j = some q) (hP : encode i = sealFrame p.id P) (hQ : encode j = sealFrame q.id Q) :
    frameSent i = frameSent j ↔ p.id = q.id ∧ P = Q := by
  rw [frameSent_command hi, frameSent_command hj, Option.some_inj,
    frameOf_inj (encode_length_le hi) (encode_length_le hj), hP, hQ, sealFrame, sealFrame]
  refine and_congr_right fun hid => ⟨fun e => (List.append_inj' e rfl).1, fun e => ?_⟩
  rw [hid, e]

/-- Settles O15: equal payloads have equal bytes, and the bytes of an operand are the operand. -/
theorem plainLayoutsLoseNothing : Obligations.PlainLayoutsLoseNothing := by
  intro id id' x x' a a' b b' c c' d d' m m'
  refine ⟨?_, ?_, ?_, ?_⟩ <;> rw [frameSent_eq_iff rfl rfl rfl rfl] <;>
    simp only [List.cons.injEq, true_and, and_true, ← byteAt_pair_eq_iff, ← byteAt_triple_eq_iff, and_assoc]

end Sys2Proof.Proofs

/-! The frame data of a command against `match` and `mask` of its row (30_encoding.md R86). -/

namespace Sys2Proof.Proofs

open Sys2Proof.Machine Sys2Proof.Laws

/-- Settles O18: a lane is fixed, free, or the packed lane, whose three middle bits are fixed. -/
theorem commandFramesMatchTheirRow : Obligations.CommandFramesMatchTheirRow := by
  intro i p h
  refine ⟨by cases i <;> cases h <;> rfl, ?_⟩
  cases i with
  | speed id d v | moveRel id d v =>
    simpa [agreesWith, rowPattern, encode, sealFrame, ← pk_eq] using pk_and_reserved d v
  | _ => cases h <;> simp [agreesWith, rowPattern, encode, sealFrame]

end Sys2Proof.Proofs

/-! A signed field written big-endian into a response frame (30_encoding.md R73). -/

namespace Sys2Proof.Proofs

open Sys2Proof.Machine Sys2Proof.Laws

/-- The least significant byte stands last, the bytes of the quotient before it (00_scope.md R9). -/
theorem be_succ (n v : Nat) : be (n + 1) v = be n (v / 256) ++ [BitVec.ofNat 8 v] := by
  have hlast : BitVec.ofNat 8 (v &&& 0xFF) = BitVec.ofNat 8 v := by
    rw [show v &&& 0xFF = v % 2 ^ 8 from Nat.and_two_pow_sub_one_eq_mod v 8]
    exact BitVec.eq_of_toNat_eq (by simp)
  have hshift : ∀ k < n, v >>> (8 * (n - k)) = (v / 256) >>> (8 * (n - 1 - k)) := fun k hk => by
    rw [show v / 256 = v >>> 8 from (Nat.shiftRight_eq_div_pow v 8).symm, ← Nat.shiftRight_add]
    congr 1
    omega
  simp only [be, List.range_succ, List.map_append, List.map_cons, List.map_nil, Nat.add_sub_cancel, Nat.sub_self,
    Nat.mul_zero, Nat.shiftRight_zero, hlast]
  exact congrArg (· ++ _) (List.map_congr_left fun k hk => by rw [hshift k (List.mem_range.mp hk)])

@[simp] theorem be_length (n v : Nat) : (be n v).length = n := by simp [be]

/-- Reading big-endian undoes writing big-endian (00_scope.md R9). -/
theorem ube_be {n v : Nat} (h : v < 2 ^ (8 * n)) : ube (be n v) = v := by
  induction n generalizing v with
  | zero =>
    obtain rfl : v = 0 := by simpa using h
    rfl
  | succ n ih =>
    have hq : v / 256 < 2 ^ (8 * n) := by
      rw [Nat.mul_succ, Nat.pow_add] at h
      omega
    rw [be_succ, ube_snoc, ih hq, BitVec.toNat_ofNat]
    omega

/-- A pattern sign-extended is the number it denotes (45_resp_decoder.md R174). -/
theorem sext_toNat {W : Nat} (hW : 0 < W) (x : BitVec W) : sext W x.toNat = x.toInt := by
  rw [sext_eq_toInt hW x.isLt, BitVec.ofNat_toNat, BitVec.setWidth_eq]

/-- The lanes of a field in RX, between the bytes before it and those after it. -/
theorem readLanes_field (id : Ident) {s A B C : List Byte} {k n : Nat} (hs : s = A ++ B ++ C) (hA : A.length = k)
    (hB : B.length = n) (h : s.length ≤ 8) : readLanes (bufferOf (frameOf id s)).mem k n = B := by
  subst hs hA hB
  have hAB : A.length + B.length ≤ 8 := by
    rw [List.length_append, List.length_append] at h
    omega
  rw [readLanes_bufferOf _ hAB, laneList_frameOf id h]
  simp

/-- A frame of 1 to 8 bytes is decoded by the branch of its lane 0 (45_resp_decoder.md R172). -/
theorem decodedValue_frameOf {cfg : Config} {id : Ident} {code : Byte} {bytes : List Byte} {s : State}
    {r : ParsedResponse} (hs : s = takeFrame (frameOf id bytes) { State.reset with cfg := cfg })
    (hcode : bytes.head? = some code) (hlen : bytes.length ≤ 8)
    (hx : exec (dispatch code) s = .next { s with pr := r }) : decodedValue cfg (frameOf id bytes) = some r := by
  obtain ⟨rest, rfl⟩ := List.head?_eq_some_iff.mp hcode
  have hpos : s.rx.len.val ≠ 0 := by
    rw [hs, takeFrame_rx]
    exact (frameOf_len id hlen).trans_ne (Nat.succ_ne_zero _)
  have hlane : readLane s.rx.mem 0 = code := by
    rw [hs, takeFrame_rx, readLane_bufferOf_zero]
    rfl
  have hd : decodeRx s = .next { s with pr := r } := by rw [decodeRx, if_neg hpos, hlane, hx]
  rw [hs, takeFrame] at hd
  rw [decodedValue, hd]

/-- A frame that carries a pattern big-endian from lane 1, decoded by the branch of a signed field, gives the number the
pattern denotes, whatever the byte after it (45_resp_decoder.md R174). -/
theorem decodedValue_signed {code : Byte} {w : SignedWidth} (hx : ∀ s, exec (dispatch code) s = branchSigned code w s)
    (cfg : Config) (id : Ident) (c : Byte) (x : BitVec (8 * widthBytes w)) :
    decodedValue cfg (frameOf id ([code] ++ be (widthBytes w) x.toNat ++ [c])) = some (.signed code w x.toInt) := by
  have hlen : ([code] ++ be (widthBytes w) x.toNat ++ [c]).length = widthBytes w + 2 := by simp
  have hle : ([code] ++ be (widthBytes w) x.toNat ++ [c]).length ≤ 8 := hlen ▸ by cases w <;> decide
  rw [decodedValue_frameOf rfl rfl hle ((hx _).trans (branchSigned_long ((frameOf_len id hle).trans hlen).ge)),
    takeFrame_rx, readLanes_field id (k := 1) rfl rfl (be_length _ _) hle, ube_be x.isLt,
    sext_toNat (by cases w <;> decide)]

/-- A frame that carries a carry and a value big-endian from lane 1 gives both (45_resp_decoder.md R184). -/
theorem decodedValue_encCarry {code : Byte} (hx : ∀ s, exec (dispatch code) s = branchEncCarry code s)
    (cfg : Config) (id : Ident) (c : Byte) (x : BitVec 16) (y : BitVec 32) :
    decodedValue cfg (frameOf id ([code] ++ be 4 y.toNat ++ be 2 x.toNat ++ [c])) =
      some (.encCarry code y.toInt x) := by
  have hlen : ([code] ++ be 4 y.toNat ++ be 2 x.toNat ++ [c]).length = 8 := by simp
  rw [decodedValue_frameOf rfl rfl hlen.le
      ((hx _).trans (branchEncCarry_long ((frameOf_len id hlen.le).trans hlen).ge)),
    takeFrame_rx, readLanes_field id (k := 1) (List.append_assoc _ _ _) rfl (be_length _ _) hlen.le,
    readLanes_field id rfl (by simp) (be_length _ _) hlen.le, ube_be y.isLt, ube_be x.isLt, sext_toNat (by decide),
    BitVec.ofNat_toNat, BitVec.setWidth_eq]

/-- Settles O41, by the branch of each signed code. -/
theorem signedFieldsRoundTrip : Obligations.SignedFieldsRoundTrip := fun cfg id c x y z =>
  ⟨decodedValue_signed (w := .w16) (fun _ => rfl) cfg id c x, decodedValue_signed (w := .w32) (fun _ => rfl) cfg id c y,
   decodedValue_signed (w := .w48) (fun _ => rfl) cfg id c z, decodedValue_signed (w := .w48) (fun _ => rfl) cfg id c z,
   decodedValue_encCarry (fun _ => rfl) cfg id c x y⟩

end Sys2Proof.Proofs

/-! The textual form of a command (30_encoding.md R82). -/

namespace Sys2Proof.Proofs

open Sys2Proof.Machine Sys2Proof.Laws

/-- An unsigned number in its range is read as the pattern it is. -/
@[simp] theorem unsignedOperand_toNat {w : Nat} (x : BitVec w) : unsignedOperand w (x.toNat : Int) = some x := by
  have hlt : (x.toNat : Int) < 2 ^ w := by exact_mod_cast x.isLt
  rw [unsignedOperand, if_pos ⟨Int.natCast_nonneg _, hlt⟩, BitVec.ofInt_natCast, BitVec.ofNat_toNat, BitVec.setWidth_eq]

/-- A signed number in its range is read as its two's-complement pattern (30_encoding.md R68). -/
@[simp] theorem signedOperand_toInt (m : BitVec 24) : signedOperand m.toInt = some m := by
  rw [signedOperand, if_pos ⟨m.le_toInt, m.toInt_lt⟩, BitVec.ofInt_toInt]

/-- A line is written for commands only. -/
theorem encodePorts_of_operandsOf {i : Instr} {ops : List Int} (h : operandsOf i = some ops) :
    ∃ p, encodePorts i = some p := by
  cases i <;> cases h <;> exact ⟨_, rfl⟩

theorem commandMnemonics_nodup : commandMnemonics.Nodup := by decide

/-- The mnemonic of a command stands in the catalog at its index (10_state.md R26). -/
theorem getElem?_commandMnemonics {i : Instr} {p : EncPorts} (h : encodePorts i = some p) :
    commandMnemonics[p.op.toNat]? = some (mnemonicOf i) := by
  cases i <;> cases h <;> rfl

/-- The mnemonics are distinct, so the search of the catalog ends at the index of the command. -/
theorem findIdx?_mnemonicOf {i : Instr} {p : EncPorts} (h : encodePorts i = some p) :
    commandMnemonics.findIdx? (fun m => m == mnemonicOf i) = some p.op.toNat := by
  obtain ⟨hlt, hget⟩ := List.getElem?_eq_some_iff.mp (getElem?_commandMnemonics h)
  refine List.findIdx?_eq_some_iff_getElem.mpr ⟨hlt, beq_iff_eq.mpr hget, fun k hk he => ?_⟩
  have hsame : k = p.op.toNat := (commandMnemonics_nodup.getElem_inj_iff).mp ((beq_iff_eq.mp he).trans hget.symm)
  omega

/-- The operands of a command, written as numbers, are read back by its index. -/
theorem commandOf_operandsOf {i : Instr} {p : EncPorts} {ops : List Int} (hp : encodePorts i = some p)
    (h : operandsOf i = some ops) : commandOf p.op.toNat ops = some i := by
  cases i <;> cases hp <;> cases h <;> simp [commandOf]

/-- Settles O47: the mnemonic gives the index, and the index and the operands give the command. -/
theorem assembledLineIsTheCommand : Obligations.AssembledLineIsTheCommand := by
  intro i l h
  obtain ⟨ops, hops, rfl⟩ := Option.map_eq_some_iff.mp h
  obtain ⟨p, hp⟩ := encodePorts_of_operandsOf hops
  simp only [assemble, findIdx?_mnemonicOf hp, commandOf_operandsOf hp hops]

end Sys2Proof.Proofs

/-! The equalities of 30_encoding.md R83, and words of the opcode table. -/

namespace Sys2Proof.Proofs

open Sys2Proof.Machine Sys2Proof.Laws

theorem payloadStopSpeed_eq (acc : Byte) : payloadStopSpeed acc = payloadSpeed 0 0 acc := rfl

theorem payloadStopRel_eq (acc : Byte) : payloadStopRel acc = payloadMoveRel 0 0 acc 0 := rfl

theorem payloadStopAbs_eq (acc : Byte) : payloadStopAbs acc = payloadMoveAbs 0 acc 0 := rfl

theorem payloadStopAxis_eq (acc : Byte) : payloadStopAxis acc = payloadMoveAxis 0 acc 0 := rfl

/-- Settles O13: the raw payloads agree, and a command is encode-and-send of its raw payload. -/
theorem stopEqualsMoveWithZeroFields : Obligations.StopEqualsMoveWithZeroFields := by
  intro s id acc
  exact ⟨congrArg (encodeAndSend id · s) (payloadStopSpeed_eq acc),
    congrArg (encodeAndSend id · s) (payloadStopRel_eq acc), congrArg (encodeAndSend id · s) (payloadStopAbs_eq acc),
    congrArg (encodeAndSend id · s) (payloadStopAxis_eq acc), rfl⟩

/-- A table word that holds the words of an instruction is read as that instruction, but for what they do not carry. -/
theorem decodeTableWord_of_encode {nbits w : Nat} {i : Instr} (hw : i.wellFormed = true)
    (h : laneBytes nbits w = encode i) : decodeTableWord nbits w = some (frameReading i) := by
  rw [decodeTableWord, h, frameDataReadsBack i hw]
  rfl

/-- A table word that is no frame of a command row is read by its lane 0 (45_resp_decoder.md R172). -/
theorem decodeTableWord_of_response {nbits w : Nat} {k : Byte} {rest : List Byte} (h : laneBytes nbits w = k :: rest)
    (hlen : rest.length < 8) (hp : parseCommandFrame (k :: rest) = none) :
    decodeTableWord nbits w = some (dispatch k) := by
  have hle : ¬ (k :: rest).length > 8 := Nat.not_lt.mpr hlen
  simp only [decodeTableWord, h, decodeFrame, if_neg hle, hp]
  rfl

/-- Settles O48: the words of commands read back, the words of response rows by their lane 0. -/
theorem sampleWordsDecode : Obligations.SampleWordsDecode := by
  refine ⟨?_, ?_, ?_, ?_, ?_, ?_, ?_, ?_, ?_⟩
  · exact decodeTableWord_of_encode (i := .rdEncCarry 0x01) rfl (by decide)
  · exact decodeTableWord_of_encode (i := .setCurrent 0x01 500) rfl (by decide)
  · exact decodeTableWord_of_encode (i := .setHome 0x01 0 1 300 1 0) rfl (by decide)
  · exact decodeTableWord_of_encode (i := .speed 0x01 1 600 2) rfl (by decide)
  · exact decodeTableWord_of_encode (i := .moveAbs 0x01 600 2 (BitVec.ofInt 24 (-3200))) rfl (by decide)
  · exact decodeTableWord_of_encode (i := .calibrate 0x01) rfl (by decide)
  · exact decodeTableWord_of_response (k := 0x31) (rest := [0x00, 0x00, 0x12, 0x34, 0x56, 0x78, 0xFF]) (by decide)
      (by decide) rfl
  · exact decodeTableWord_of_response (k := 0x3A) (rest := [0x00, 0x3B]) (by decide) (by decide) rfl
  · exact decodeTableWord_of_response (k := 0x50) (rest := []) (by decide) (by decide) rfl

end Sys2Proof.Proofs

/-! The checksum as a sum modulo 256, and as accumulators that wrap around (40_checksum.md R90, R91, R96, R97). -/

namespace Sys2Proof.Proofs

open Sys2Proof.Machine Sys2Proof.Laws

/-- The number the checksum denotes (40_checksum.md R90). -/
theorem toNat_cksum (id : Ident) (P : List Byte) :
    (cksum id P).toNat = (id.toNat + (P.map BitVec.toNat).sum) % 256 := by
  rw [cksum, BitVec.toNat_ofNat, Nat.mod_mod, byteSum_eq]

/-- Checksums are equal exactly when the sums are congruent modulo 256. -/
theorem cksum_eq_iff {id id' : Ident} {P Q : List Byte} :
    cksum id P = cksum id' Q ↔
      id.toNat + (P.map BitVec.toNat).sum ≡ id'.toNat + (Q.map BitVec.toNat).sum [MOD 256] := by
  rw [← BitVec.toNat_inj, toNat_cksum, toNat_cksum, Nat.ModEq]

/-- Settles O1: the sum in general, the two worked examples by computing them. -/
theorem checksumIsSumModulo256 : Obligations.ChecksumIsSumModulo256 := ⟨toNat_cksum, by decide, by decide⟩

/-- An accumulator of `w` bits holds the sum of what it started from and the bytes, modulo `2 ^ w`. -/
theorem toNat_foldl_add {w : Nat} (acc : BitVec w) (P : List Byte) :
    (P.foldl (fun acc b => acc + b.setWidth w) acc).toNat = (acc.toNat + (P.map BitVec.toNat).sum) % 2 ^ w := by
  induction P generalizing acc with
  | nil => simp [Nat.mod_eq_of_lt acc.isLt]
  | cons b bs ih =>
    rw [List.foldl_cons, ih, List.map_cons, List.sum_cons, ← Nat.add_assoc]
    simp [BitVec.toNat_add]

/-- Settles O3: reduction modulo `2 ^ w` loses nothing of the reduction modulo 256, which divides it. -/
theorem checksumSurvivesAccumulatorWrap : Obligations.ChecksumSurvivesAccumulatorWrap := by
  intro w id P hw
  have hdvd : 256 ∣ 2 ^ w := pow_dvd_pow 2 hw
  refine BitVec.eq_of_toNat_eq ?_
  rw [BitVec.toNat_setWidth, toNat_foldl_add, toNat_cksum, BitVec.toNat_setWidth, Nat.mod_add_mod,
    Nat.mod_mod_of_dvd _ hdvd]

/-- The checksum as an 8-bit adder chain: the accumulator of the least width. -/
theorem cksum_eq_foldl (id : Ident) (P : List Byte) :
    cksum id P = P.foldl (fun acc b => acc + b) (id.setWidth 8) := by
  simpa using (checksumSurvivesAccumulatorWrap 8 id P (Nat.le_refl 8)).symm

/-- Identifiers with the same low byte give the same checksum (40_checksum.md R91). -/
theorem cksum_congr_low {id id' : Ident} (h : id.setWidth 8 = id'.setWidth 8) (P : List Byte) :
    cksum id P = cksum id' P := by
  rw [cksum_eq_foldl, cksum_eq_foldl, h]

/-- Settles O2: the chain starts from the low byte, so nothing else of the identifier reaches the checksum. -/
theorem checksumIsEightBitAdderChain : Obligations.ChecksumIsEightBitAdderChain := by
  refine ⟨fun id P => ?_, cksum_congr_low (by decide), by decide⟩
  rw [← BitVec.setWidth_eq_extractLsb' (by decide)]
  exact ⟨cksum_congr_low (by simp) P, cksum_eq_foldl id P⟩

/-- The order of the bytes does not matter (40_checksum.md R97 a). -/
theorem cksum_perm {P Q : List Byte} (id : Ident) (h : P.Perm Q) : cksum id P = cksum id Q := by
  rw [cksum_eq_iff, (h.map BitVec.toNat).sum_eq]

/-- More bytes add to the checksum of those before them (40_checksum.md R97 b). -/
theorem toNat_cksum_append (id : Ident) (P Q : List Byte) :
    (cksum id (P ++ Q)).toNat = ((cksum id P).toNat + (Q.map BitVec.toNat).sum) % 256 := by
  rw [toNat_cksum, toNat_cksum, List.map_append, List.sum_append, ← Nat.add_assoc, Nat.mod_add_mod]

/-- Zero bytes do not count (40_checksum.md R97 c). -/
theorem cksum_insert_zeros (id : Ident) (P Q : List Byte) (n : Nat) :
    cksum id (P ++ List.replicate n 0 ++ Q) = cksum id (P ++ Q) := by
  have hzero : ((List.replicate n (0 : Byte)).map BitVec.toNat).sum = 0 := by simp
  rw [cksum_eq_iff]
  simp only [List.map_append, List.sum_append, hzero, Nat.add_zero]
  exact Nat.ModEq.rfl

/-- The bytes of a sealed frame and its identifier sum to twice the checksum (40_checksum.md R97 e). -/
theorem sum_sealed_mod (id : Ident) (P : List Byte) :
    (id.toNat + ((P ++ [cksum id P]).map BitVec.toNat).sum) % 256 = (2 * (cksum id P).toNat) % 256 := by
  rw [← toNat_cksum, toNat_cksum_append, Nat.two_mul]
  simp

/-- Settles O4, one law for each clause. -/
theorem checksumAlgebra : Obligations.ChecksumAlgebra := fun id P Q =>
  ⟨cksum_perm id, toNat_cksum_append id P Q, cksum_insert_zeros id P Q, sum_sealed_mod id P⟩

end Sys2Proof.Proofs

/-! The append rule on the transmit buffer, lane by lane (40_checksum.md R92). -/

namespace Sys2Proof.Proofs

open Sys2Proof.Machine Sys2Proof.Laws

/-- A lane above the eight is unlisted. -/
theorem readLane_above {f k : Nat} {m : Memory} (h : Memory.wfFrom f m = true) (hk : 8 ≤ k) :
    readLane m k = unlistedByte := by
  induction m generalizing f with
  | nil => rfl
  | cons e rest ih =>
    obtain ⟨j, b⟩ := e
    simp only [Memory.wfFrom, Bool.and_eq_true, decide_eq_true_eq] at h
    obtain ⟨⟨⟨-, hj⟩, -⟩, hrest⟩ := h
    rw [readLane, if_neg (by omega), ih hrest]

/-- The memory of a canonical buffer is the eight lanes of its frame, and zero above. -/
theorem readLane_eq_laneList {b : Buffer} (h : b.mem.wf = true) (k : Nat) :
    readLane b.mem k = (laneList (frameIn b).data).getD k 0 := by
  rcases Nat.lt_or_ge k 8 with hk | hk
  · rcases lane_cases hk with rfl | rfl | rfl | rfl | rfl | rfl | rfl | rfl <;> rfl
  · rw [readLane_above h hk, List.getD_eq_default _ _ hk]
    rfl

/-- A lane of a frame is its byte there, and zero above its bytes (00_scope.md R11). -/
theorem laneList_frameOf_getD (id : Ident) {s : List Byte} (h : s.length ≤ 8) (k : Nat) :
    (laneList (frameOf id s).data).getD k 0 = s.getD k 0 := by
  rw [laneList_frameOf id h]
  rcases Nat.lt_or_ge k s.length with hk | hk
  · rw [List.getD_append _ _ _ _ hk]
  · rw [List.getD_append_right _ _ _ _ hk, List.getD_eq_default _ _ hk, List.getD_eq_getElem?_getD,
      List.getElem?_getD_replicate_default_eq]

/-- `MemWrite` faults when the field leaves the eight lanes. -/
theorem memWrite_error {m : Memory} {addr : Nat} {bs : List Byte} (h : 8 < addr + bs.length) :
    memWrite m addr bs = .error .txLaneOutOfRange := by
  rw [memWrite, if_neg (Nat.not_le_of_lt h)]

/-- A raw payload of 8 bytes or more cannot be sealed: with 8 bytes the checksum has no lane, with more the payload has
none (70_reset_and_hazards.md R300). -/
theorem formFrame_error (id : Ident) {P : List Byte} (h : 8 ≤ P.length) :
    formFrame id P = .error .txLaneOutOfRange := by
  rw [formFrame]
  rcases h.eq_or_lt with h8 | h8
  · rw [memWrite_ok (by omega)]
    simp only
    rw [memWrite_error (by simp [← h8])]
  · rw [memWrite_error (by omega)]

/-- Settles O19: the buffer formed holds the sealed frame, read lane by lane. -/
theorem appendRuleFormsTheBuffer : Obligations.AppendRuleFormsTheBuffer := by
  refine fun id P => ⟨fun h => ?_, formFrame_error id⟩
  obtain ⟨b, hb, hwf, hframe⟩ := formFrame_ok id h
  have hlen : (P ++ [cksum id P]).length ≤ 8 := by
    rw [List.length_append]
    exact Nat.succ_le_succ h
  have hlane (k : Nat) : readLane b.mem k = (P ++ [cksum id P]).getD k 0 := by
    rw [readLane_eq_laneList hwf, hframe, laneList_frameOf_getD id hlen]
  refine ⟨b, hb, congrArg Frame.id hframe, ?_, hwf, ?_, fun k hk => ?_, fun k hk => ?_⟩
  · rw [show b.len = (frameOf id (P ++ [cksum id P])).len from congrArg Frame.len hframe, frameOf_len id hlen,
      List.length_append, List.length_singleton]
  · rw [hlane, List.getD_append_right _ _ _ _ le_rfl, Nat.sub_self, List.getD_cons_zero]
  · rw [hlane, List.getD_append _ _ _ _ hk]
  · rw [hlane, List.getD_eq_default _ _ (by simpa using hk)]

end Sys2Proof.Proofs

/-! The status reads (41_cmd_status_reads.md R100): a code and its checksum. -/

namespace Sys2Proof.Proofs

open Sys2Proof.Machine Sys2Proof.Laws

/-- A command whose frame data is a sealed payload sends that payload and its checksum (40_checksum.md R92,
47_transport_drain.md R243). -/
theorem exec_of_encode_eq_sealFrame {i : Instr} {p : EncPorts} {P : List Byte} {s : State}
    (hp : encodePorts i = some p) (hseal : encode i = sealFrame p.id P) (ho : s.opened = true) :
    exec i s = .next (afterSend s p.id (P ++ [cksum p.id P])) := by
  rw [everyCommandSendsItsTableFrame i p s hp ho, hseal, sealFrame]

/-- A command of an identifier and no other operand that seals one code sends two bytes (41_cmd_status_reads.md R100). -/
theorem exec_of_encode_eq_sealedCode {i : Instr} {op : BitVec 6} {id : Ident} {code : Byte} {s : State}
    (hp : encodePorts i = some ⟨op, id, 0⟩) (hseal : encode i = sealFrame id [code]) (ho : s.opened = true) :
    exec i s = .next (afterSend s id [code, cksum id [code]]) :=
  exec_of_encode_eq_sealFrame hp hseal ho

/-- Settles O5: each of the nine rows has no operand but the identifier, and seals its code. -/
theorem statusReadsSendCodeAndChecksum : Obligations.StatusReadsSendCodeAndChecksum := by
  intro s id ho
  refine ⟨?rdEncCarry, ?rdEncAdd, ?rdSpeed, ?rdPulses, ?rdIo, ?rdEncRaw, ?rdAngleErr, ?rdEn, ?rdProtect⟩
  all_goals exact exec_of_encode_eq_sealedCode rfl rfl ho

end Sys2Proof.Proofs

/-! The system configuration (42_cmd_system_config.md R120): a code, one or two operand bytes, and the checksum. -/

namespace Sys2Proof.Proofs

open Sys2Proof.Machine Sys2Proof.Laws

/-- A command of one byte operand that seals its code and that byte sends three bytes, whatever the byte
(42_cmd_system_config.md R120). -/
theorem exec_of_encode_eq_sealedByte {i : Instr} {op : BitVec 6} {id : Ident} {code a : Byte} {s : State}
    (hp : encodePorts i = some ⟨op, id, a.setWidth 56⟩) (hseal : encode i = sealFrame id [code, a])
    (ho : s.opened = true) : exec i s = .next (afterSend s id [code, a, cksum id [code, a]]) :=
  exec_of_encode_eq_sealFrame hp hseal ho

/-- Settles O6: each of the ten rows has one byte operand, and seals its code and that byte. -/
theorem byteConfigurationSendsOperandUnchanged : Obligations.ByteConfigurationSendsOperandUnchanged := by
  intro s id a ho
  refine ⟨?setMode, ?setMicrostep, ?setEnActive, ?setDir, ?setAutoSleep, ?setProtect, ?setInterp, ?setHoldCurrent,
    ?setBusRate, ?setKeyLock⟩
  all_goals exact exec_of_encode_eq_sealedByte rfl rfl ho

/-- A command of one 16-bit operand that seals its code and the bytes of that operand sends bits 15 to 8 before bits
7 to 0 (30_encoding.md R67). -/
theorem exec_of_encode_eq_sealedWord {i : Instr} {op : BitVec 6} {id : Ident} {code : Byte} {x : BitVec 16} {s : State}
    (hp : encodePorts i = some ⟨op, id, x.setWidth 56⟩)
    (hseal : encode i = sealFrame id [code, byteAt x 8, byteAt x 0]) (ho : s.opened = true) :
    exec i s = .next (afterSend s id
      [code, x.extractLsb' 8 8, x.extractLsb' 0 8, cksum id [code, x.extractLsb' 8 8, x.extractLsb' 0 8]]) :=
  exec_of_encode_eq_sealFrame hp hseal ho

/-- Settles O7: three rows seal the bytes of a 16-bit operand, `SET_RESPONSE` two single bytes; the identifier that
enters the checksum is the one the command is sent to. -/
theorem wideConfigurationSendsBigEndian : Obligations.WideConfigurationSendsBigEndian := by
  intro s id x a b ho
  refine ⟨?setCurrent, ?setBusAddr, ?setGroupAddr, ?setResponse⟩
  case setResponse =>
    exact exec_of_encode_eq_sealFrame (p := ⟨20, id, (a ++ b).setWidth 56⟩) (P := [0x8C, a, b]) rfl rfl ho
  all_goals exact exec_of_encode_eq_sealedWord rfl rfl ho

end Sys2Proof.Proofs

/-! Homing, zero and parameter read (43_cmd_homing_param.md R140): a code, none to five operands, and the checksum. -/

namespace Sys2Proof.Proofs

open Sys2Proof.Machine Sys2Proof.Laws

/-- Settles O8: the two triggers seal their code, `RD_PARAM` its code and the index, and the two configuration commands
their parameter sets; `SET_HOME` sends both bytes of its speed, so its payload is the longest that can be sealed. -/
theorem homingAndParameterFrames : Obligations.HomingAndParameterFrames := by
  intro s id trig dir endlim mode en speed8 idx speed ho
  refine ⟨?setHome, ?goHome, ?setZero, ?setZeroMode, ?rdParam⟩
  case setHome =>
    exact exec_of_encode_eq_sealFrame (p := ⟨23, id, (trig ++ dir ++ speed ++ endlim ++ mode).setWidth 56⟩)
      (P := [0x90, trig, dir, byteAt speed 8, byteAt speed 0, endlim, mode]) rfl rfl ho
  case goHome => exact exec_of_encode_eq_sealedCode rfl rfl ho
  case setZero => exact exec_of_encode_eq_sealedCode rfl rfl ho
  case setZeroMode =>
    exact exec_of_encode_eq_sealFrame (p := ⟨26, id, (mode ++ en ++ speed8 ++ dir).setWidth 56⟩)
      (P := [0x9A, mode, en, speed8, dir]) rfl rfl ho
  case rdParam => exact exec_of_encode_eq_sealedByte rfl rfl ho

end Sys2Proof.Proofs

/-! Motion and maintenance (44_cmd_motion_maint.md R150, R160): the moves, their stop variants, and four commands
without an operand. -/

namespace Sys2Proof.Proofs

open Sys2Proof.Machine Sys2Proof.Laws

/-- A command that seals a payload under its identifier sends it, however the encoder ports carry its operands
(47_transport_drain.md R243). -/
theorem exec_of_encode_eq_sealedPayload {i : Instr} {op : BitVec 6} {id : Ident} {operands : BitVec 56} {P : List Byte}
    {s : State} (hp : encodePorts i = some ⟨op, id, operands⟩) (hseal : encode i = sealFrame id P)
    (ho : s.opened = true) : exec i s = .next (afterSend s id (P ++ [cksum id P])) :=
  exec_of_encode_eq_sealFrame hp hseal ho

/-- Settles O9: each row seals the payload of its layout, the packed lane as its three bit fields and the other operands
as their bytes. -/
theorem movesPackDirectionSpeedAndTarget : Obligations.MovesPackDirectionSpeedAndTarget := by
  intro s id dir speed acc m ho
  refine ⟨?speed, ?moveRel, ?moveAbs, ?moveAxis⟩
  all_goals exact exec_of_encode_eq_sealedPayload rfl rfl ho

/-- Settles O10: a stop is its move with every field but the acceleration zero, so its frame is that of the move, whose
lanes of zero fields are zero bytes. -/
theorem stopsSendZeroFieldsAndAcceleration : Obligations.StopsSendZeroFieldsAndAcceleration := by
  intro s id acc ho
  obtain ⟨stopSpeed_eq, stopRel_eq, stopAbs_eq, stopAxis_eq, -⟩ := stopEqualsMoveWithZeroFields s id acc
  obtain ⟨speed_sends, moveRel_sends, moveAbs_sends, moveAxis_sends⟩ :=
    movesPackDirectionSpeedAndTarget s id 0 0 acc 0 ho
  exact ⟨stopSpeed_eq.trans speed_sends, stopRel_eq.trans moveRel_sends, stopAbs_eq.trans moveAbs_sends,
    stopAxis_eq.trans moveAxis_sends⟩

/-- Settles O11: three rows seal their code; `CALIBRATE` has no operand either, and seals its code and a zero byte. -/
theorem maintenanceFrames : Obligations.MaintenanceFrames := by
  intro s id ho
  refine ⟨?restore, ?restart, ?estop, ?calibrate⟩
  case calibrate => exact exec_of_encode_eq_sealedPayload (P := [0x80, 0x00]) rfl rfl ho
  all_goals exact exec_of_encode_eq_sealedCode rfl rfl ho

end Sys2Proof.Proofs

/-! The dispatch of the decoder on lane 0 (45_resp_decoder.md R172, R178, R179), what the branch of a code answers, and
which bytes of a frame that depends on. -/

namespace Sys2Proof.Proofs

open Sys2Proof.Machine Sys2Proof.Laws

/-- The words of the row a byte is dispatched to are that byte. -/
theorem encode_dispatch (b : Byte) : encode (dispatch b) = [b] := by revert b; decide

theorem wellFormed_dispatch (b : Byte) : (dispatch b).wellFormed = true := by revert b; decide

theorem dispatch_injective : Function.Injective dispatch := fun b c h => by
  simpa [encode_dispatch] using congrArg encode h

/-- The fallback is well formed for an unrecognised code only, and each such code goes there (45_resp_decoder.md
R178). -/
theorem dispatch_eq_respOther_iff (b : Byte) : dispatch b = .respOther b ↔ b ∉ responseCodes := by
  refine ⟨fun h => ?_, fun h => dispatch_of_not_mem (by simpa using h)⟩
  simpa [h, Instr.wellFormed] using wellFormed_dispatch b

section

variable (s : State) {f : Frame}

/-- A received frame of at least one byte is decoded by the row of its lane 0 (45_resp_decoder.md R172). -/
theorem decodeRx_takeFrame (h : 1 ≤ f.len.val) :
    decodeRx (takeFrame f s) = exec (dispatch f.data.d0) (takeFrame f s) := by
  have hpos : (takeFrame f s).rx.len.val ≠ 0 := Nat.one_le_iff_ne_zero.mp h
  rw [decodeRx, if_neg hpos, takeFrame_rx, readLane_bufferOf_zero]

/-- An empty frame is skipped (45_resp_decoder.md R179). -/
theorem decodeRx_takeFrame_empty (h : f.len.val = 0) :
    decodeRx (takeFrame f s) = .next { takeFrame f s with pr := .skipped } := if_pos h

/-- The fallback dumps a received frame of at least one byte, whatever its lane 0 (45_resp_decoder.md R178). -/
theorem exec_respOther_takeFrame (code : Byte) (h : 1 ≤ f.len.val) :
    exec (.respOther code) (takeFrame f s) = .next { takeFrame f s with pr := .rawDump (frameBytes f) } := by
  have hdump : readLanes (bufferOf f).mem 0 f.len.val = frameBytes f := readLanes_bufferOf f (by omega)
  rw [← hdump]
  exact branchRaw_nonempty h

theorem decodeRx_takeFrame_unrecognised (h : 1 ≤ f.len.val) (hcode : f.data.d0 ∉ responseCodes) :
    decodeRx (takeFrame f s) = .next { takeFrame f s with pr := .rawDump (frameBytes f) } := by
  rw [decodeRx_takeFrame s h, (dispatch_eq_respOther_iff _).mpr hcode, exec_respOther_takeFrame s _ h]

end

/-- Settles O46, by the words of the row a byte is dispatched to. -/
theorem dispatchIsExact : Obligations.DispatchIsExact :=
  ⟨rfl, by decide, fun b => ⟨wellFormed_dispatch b, encode_dispatch b⟩, dispatch_eq_respOther_iff,
    fun _ _ h => dispatch_injective h, fun s _ h => decodeRx_takeFrame s h⟩

/-- Settles O30, by what the fallback answers and by the test for an empty frame. -/
theorem unrecognisedFramesAreDumpedWhole : Obligations.UnrecognisedFramesAreDumpedWhole := fun s _ =>
  ⟨decodeRx_takeFrame_unrecognised s, decodeRx_takeFrame_empty s, exec_respOther_takeFrame s⟩

/-- Settles O33: an empty frame is skipped, and every response row changes the value only. -/
theorem decoderIsTotal : Obligations.DecoderIsTotal := decodeRx_total

/-! What a branch makes of the field bytes, those of lane 1 and up (45_resp_decoder.md R174 to R177, R184). -/

/-- A signed field (R174). -/
def signedValue (code : Byte) (w : SignedWidth) (fields : List Byte) : ParsedResponse :=
  .signed code w (sext (8 * widthBytes w) (ube fields))

/-- The carry, then the value (R184). -/
def encCarryValue (code : Byte) (fields : List Byte) : ParsedResponse :=
  .encCarry code (sext 32 (ube (fields.take 4))) (BitVec.ofNat 16 (ube (fields.drop 4)))

/-- The ticks, also in degrees (R175). -/
def angleValue (code : Byte) (w : AngleWidth) (fields : List Byte) : ParsedResponse :=
  .angleErr code (sext (8 * angleBytes w) (ube fields)) (degNum (sext (8 * angleBytes w) (ube fields)))

/-- The byte itself (R177). -/
def byteValue (code : Byte) (fields : List Byte) : ParsedResponse := .statusByte code (fields.headD 0)

/-- An index into a name list (R176). -/
def statusValue (code : Byte) (names : List StatusWord) (fields : List Byte) : ParsedResponse :=
  .status code (fields.headD 0) (statusName names (fields.headD 0))

theorem afterParse_of_lt {s : State} {least : Nat} (value : ParsedResponse) (h : s.rx.len.val < least) :
    afterParse s least value = { s with pr := .skipped } := by rw [afterParse, if_pos h]

theorem afterParse_of_le {s : State} {least : Nat} (value : ParsedResponse) (h : least ≤ s.rx.len.val) :
    afterParse s least value = { s with pr := value } := by rw [afterParse, if_neg (Nat.not_lt.mpr h)]

/-- A branch that answers a value for every frame long enough for its field bytes skips all others
(45_resp_decoder.md R173). -/
theorem branch_eq_afterParse {n : Nat} {read : Buffer → Except Fault ParsedResponse} {s : State}
    {value : ParsedResponse} (hlong : n + 2 ≤ s.rx.len.val → branch n read s = .next { s with pr := value }) :
    branch n read s = .next (afterParse s (n + 2) value) := by
  obtain hl | hl := Nat.lt_or_ge s.rx.len.val (n + 2)
  · rw [branch_short hl, afterParse_of_lt value hl]
  · rw [hlong hl, afterParse_of_le value hl]

/-- The row of a code reads `n` field bytes: it skips a frame without room for the code, them and the checksum lane, and
its value is a function of them (45_resp_decoder.md R173, R180). -/
def ReadsFields (w : AngleWidth) (code : Byte) (n : Nat) (value : List Byte → ParsedResponse) : Prop :=
  ∀ s : State, s.cfg.angleErrBytes = w →
    exec (dispatch code) s = .next (afterParse s (n + 2) (value (readLanes s.rx.mem 1 n)))

section

variable {w : AngleWidth} {code : Byte}

theorem readsFields_signed {width : SignedWidth} (hx : ∀ s, exec (dispatch code) s = branchSigned code width s) :
    ReadsFields w code (widthBytes width) (signedValue code width) := fun s _ =>
  (hx s).trans (branch_eq_afterParse branchSigned_long)

theorem readsFields_encCarry (hx : ∀ s, exec (dispatch code) s = branchEncCarry code s) :
    ReadsFields w code 6 (encCarryValue code) := fun s _ => (hx s).trans (branch_eq_afterParse branchEncCarry_long)

theorem readsFields_angle (hx : ∀ s, exec (dispatch code) s = branchAngle code s) :
    ReadsFields w code (angleBytes w) (angleValue code w) := fun s hw => by
  subst hw
  exact (hx s).trans (branch_eq_afterParse branchAngle_long)

theorem readsFields_byte (hx : ∀ s, exec (dispatch code) s = branchByte code s) :
    ReadsFields w code 1 (byteValue code) := fun s _ => (hx s).trans (branch_eq_afterParse branchByte_long)

theorem readsFields_status {names : List StatusWord}
    (hx : ∀ s, exec (dispatch code) s = branchStatus code names s) :
    ReadsFields w code 1 (statusValue code names) := fun s _ =>
  (hx s).trans (branch_eq_afterParse branchStatus_long)

end

/-- Only recognised codes have a name list. -/
theorem mem_responseCodes_of_namesOf {code : Byte} {names : List StatusWord} (h : namesOf code = some names) :
    code ∈ responseCodes := by
  have hnone : ∀ b : Byte, b ∉ responseCodes → namesOf b = none := by decide
  by_contra hmem
  cases (hnone code hmem).symm.trans h

/-- The row of a code with a name list is the status branch with that list (45_resp_decoder.md R176), code by code. -/
theorem exec_dispatch_of_namesOf {code : Byte} {names : List StatusWord} (h : namesOf code = some names) (s : State) :
    exec (dispatch code) s = branchStatus code names s := by
  have hmem := mem_responseCodes_of_namesOf h
  fin_cases hmem <;> cases h <;> rfl

/-- A status frame is the code, the index and the checksum lane (30_encoding.md R77), code by code. -/
theorem minLenOf_of_namesOf {w : AngleWidth} {code : Byte} {names : List StatusWord} (h : namesOf code = some names) :
    minLenOf w code = some 3 := by
  have hmem := mem_responseCodes_of_namesOf h
  fin_cases hmem <;> cases h <;> rfl

theorem minLenOf_eq_none_iff {w : AngleWidth} {code : Byte} : minLenOf w code = none ↔ code ∉ responseCodes := by
  cases w <;> revert code <;> decide

/-- The recognised codes without a name list are seven answers to status reads. -/
theorem mem_readCodes_of_namesOf_eq_none {code : Byte} (hmem : code ∈ responseCodes) (h : namesOf code = none) :
    code ∈ [0x30, 0x31, 0x32, 0x33, 0x34, 0x35, 0x39] := by
  revert code; decide

/-- Every recognised code's row reads field bytes, two fewer than its minimum length: a status row by its name list, the
seven others, in the order of their codes, each by its format (30_encoding.md R72, R77). -/
theorem readsFields_of_minLenOf {w : AngleWidth} {code : Byte} {least : Nat} (h : minLenOf w code = some least) :
    ∃ n value, least = n + 2 ∧ ReadsFields w code n value := by
  cases hn : namesOf code with
  | some names =>
    obtain rfl : 3 = least := Option.some.inj ((minLenOf_of_namesOf hn).symm.trans h)
    exact ⟨1, _, rfl, readsFields_status (exec_dispatch_of_namesOf hn)⟩
  | none =>
    have hmem : code ∈ responseCodes := by
      by_contra hnot
      cases (minLenOf_eq_none_iff.mpr hnot).symm.trans h
    have hread := mem_readCodes_of_namesOf_eq_none hmem hn
    fin_cases hread
    · cases h; exact ⟨6, _, rfl, readsFields_encCarry fun _ => rfl⟩
    · cases h; exact ⟨6, _, rfl, readsFields_signed (width := .w48) fun _ => rfl⟩
    · cases h; exact ⟨2, _, rfl, readsFields_signed (width := .w16) fun _ => rfl⟩
    · cases h; exact ⟨4, _, rfl, readsFields_signed (width := .w32) fun _ => rfl⟩
    · cases h; exact ⟨1, _, rfl, readsFields_byte fun _ => rfl⟩
    · cases h; exact ⟨6, _, rfl, readsFields_signed (width := .w48) fun _ => rfl⟩
    · cases w <;> cases h <;> exact ⟨_, _, rfl, readsFields_angle fun _ => rfl⟩

/-- A received frame whose lane 0 selects a row that reads field bytes gets the value of its own. -/
theorem decodeRx_of_readsFields {s : State} {f : Frame} {n : Nat} {value : List Byte → ParsedResponse}
    (hrow : ReadsFields s.cfg.angleErrBytes f.data.d0 n value) (hpos : 1 ≤ f.len.val) :
    decodeRx (takeFrame f s) =
      .next (afterParse (takeFrame f s) (n + 2) (value (readLanes (bufferOf f).mem 1 n))) :=
  (decodeRx_takeFrame s hpos).trans (hrow _ rfl)

/-- Settles O31: the row of lane 0 has no room for its field bytes. -/
theorem shortFramesAreSkipped : Obligations.ShortFramesAreSkipped := by
  intro s f least hpos hleast hshort
  obtain ⟨n, value, rfl, hrow⟩ := readsFields_of_minLenOf hleast
  rw [decodeRx_of_readsFields hrow hpos, afterParse_of_lt _ hshort]

/-- Settles O32: the status branch of the code looks the byte at lane 1 up in the code's list. -/
theorem statusLookupNeverLeavesTheList : Obligations.StatusLookupNeverLeavesTheList := by
  intro s f names hlen hnames
  refine ⟨statusName names f.data.d1, ?_, fun h => ?_, fun h => ?_⟩
  · rw [decodeRx_takeFrame s (by omega), exec_dispatch_of_namesOf hnames, ← readLane_bufferOf_one f]
    exact branchStatus_long hlen
  · rw [statusName_eq, dif_pos h]
  · rw [statusName_eq, dif_neg (Nat.not_lt.mpr h)]

/-! Which bytes of a frame its value depends on (45_resp_decoder.md R180, R181, R183). -/

section

variable {cfg : Config} {f : Frame}

theorem decodedValue_of_decodeRx {r : ParsedResponse}
    (h : decodeRx (takeFrame f { State.reset with cfg := cfg }) =
      .next { takeFrame f { State.reset with cfg := cfg } with pr := r }) : decodedValue cfg f = some r := by
  rw [takeFrame] at h
  rw [decodedValue, h]

theorem decodedValue_empty (h : f.len.val = 0) : decodedValue cfg f = some .skipped :=
  decodedValue_of_decodeRx (decodeRx_takeFrame_empty _ h)

theorem decodedValue_unrecognised (h : 1 ≤ f.len.val) (hcode : f.data.d0 ∉ responseCodes) :
    decodedValue cfg f = some (.rawDump (frameBytes f)) :=
  decodedValue_of_decodeRx (decodeRx_takeFrame_unrecognised _ h hcode)

theorem decodedValue_short {least : Nat} (hpos : 1 ≤ f.len.val)
    (h : minLenOf cfg.angleErrBytes f.data.d0 = some least) (hshort : f.len.val < least) :
    decodedValue cfg f = some .skipped :=
  decodedValue_of_decodeRx (shortFramesAreSkipped _ f least hpos h hshort)

/-- Lane 0 is the first of the bytes of a frame. -/
theorem head?_take_frameBytes {k : Nat} (hk : 1 ≤ k) (h : 1 ≤ f.len.val) :
    ((frameBytes f).take k).head? = some f.data.d0 := by
  rw [frameBytes, List.take_take, List.head?_take, if_neg (by omega)]
  rfl

/-- The field bytes are those between the code and the checksum lane. -/
theorem readLanes_fields {n : Nat} (h : n + 2 ≤ f.len.val) :
    readLanes (bufferOf f).mem 1 n = ((frameBytes f).take (n + 1)).tail := by
  rw [readLanes_bufferOf f (by omega), frameBytes, List.take_take, Nat.min_eq_left (by omega), ← List.drop_one,
    List.drop_take, Nat.add_sub_cancel]

/-- The value of a frame with room for the field bytes of its code's row is a function of them. -/
theorem decodedValue_of_readsFields {n : Nat} {value : List Byte → ParsedResponse}
    (hrow : ReadsFields cfg.angleErrBytes f.data.d0 n value) (hlong : n + 2 ≤ f.len.val) :
    decodedValue cfg f = some (value ((frameBytes f).take (n + 1)).tail) := by
  refine decodedValue_of_decodeRx ?_
  rw [decodeRx_of_readsFields hrow (by omega), afterParse_of_le _ hlong, readLanes_fields hlong]

end

/-- Settles O37: the bytes below the checksum lane start with the code, and the value is a function of them. -/
theorem checksumLaneAndSurplusAreNotExamined : Obligations.ChecksumLaneAndSurplusAreNotExamined := by
  intro cfg f g least hleast hf hg hbytes
  obtain ⟨n, value, rfl, hrow⟩ := readsFields_of_minLenOf hleast
  have htake : (frameBytes f).take (n + 1) = (frameBytes g).take (n + 1) := hbytes
  have hcode : f.data.d0 = g.data.d0 := by
    rw [← Option.some_inj, ← head?_take_frameBytes (Nat.succ_pos n) (by omega),
      ← head?_take_frameBytes (Nat.succ_pos n) (by omega), htake]
  rw [decodedValue_of_readsFields hrow hf, decodedValue_of_readsFields (hcode ▸ hrow) hg, htake]

/-- Settles O36, by the length and the code: an empty frame, an unrecognised code, a short frame, a long enough one. -/
theorem identifierAndLanesAboveLengthAreNotRead : Obligations.IdentifierAndLanesAboveLengthAreNotRead := by
  intro cfg f g hlen hbytes
  by_cases hempty : f.len.val = 0
  · rw [decodedValue_empty hempty, decodedValue_empty (hlen ▸ hempty)]
  have hf : 1 ≤ f.len.val := Nat.one_le_iff_ne_zero.mpr hempty
  have hg : 1 ≤ g.len.val := hlen ▸ hf
  have hcode : f.data.d0 = g.data.d0 := by
    rw [← Option.some_inj, ← head?_take_frameBytes le_rfl hf, ← head?_take_frameBytes le_rfl hg, hbytes]
  cases hleast : minLenOf cfg.angleErrBytes f.data.d0 with
  | none =>
    have hnot := minLenOf_eq_none_iff.mp hleast
    rw [decodedValue_unrecognised hf hnot, decodedValue_unrecognised hg (hcode ▸ hnot), hbytes]
  | some least =>
    obtain hshort | hlong := Nat.lt_or_ge f.len.val least
    · rw [decodedValue_short hf hleast hshort, decodedValue_short hg (hcode ▸ hleast) (hlen ▸ hshort)]
    · exact checksumLaneAndSurplusAreNotExamined cfg f g least hleast hlong (hlen ▸ hlong) (by rw [hbytes])

end Sys2Proof.Proofs

/-! The signed fields and the degrees as numbers (45_resp_decoder.md R174, R175). -/

namespace Sys2Proof.Proofs

open Sys2Proof.Machine Sys2Proof.Laws

section

variable {W u : Nat}

/-- Sign extension stays in the range of the width (00_scope.md R10). -/
theorem sext_mem_range (hW : 0 < W) (hu : u < 2 ^ W) : -2 ^ (W - 1) ≤ sext W u ∧ sext W u < 2 ^ (W - 1) := by
  rw [sext_eq_toInt hW hu]
  exact ⟨BitVec.le_toInt _, BitVec.toInt_lt⟩

/-- Sign extension subtracts nothing or `2 ^ W` (00_scope.md R10). -/
theorem sext_modEq : sext W u ≡ u [ZMOD 2 ^ W] := by
  unfold sext
  split
  · exact Int.sub_emod_right _ _
  · rfl

/-- The 64-bit form denotes the integer itself, which fits 64 bits (45_resp_decoder.md R174). -/
theorem toInt_sext64 (hW : 0 < W) (hW64 : W ≤ 64) (hu : u < 2 ^ W) : (sext64 W u).toInt = sext W u := by
  obtain ⟨hlow, hhigh⟩ := sext_mem_range hW hu
  have hpow : (2 : Int) ^ (W - 1) ≤ 2 ^ 63 := pow_le_pow_right₀ (by decide) (by omega)
  rw [← ofInt_sext hW64 hu]
  exact BitVec.toInt_ofInt_eq_self (by decide) (by omega) (by omega)

end

/-- Settles O39, by the two's-complement reading of a pattern. -/
theorem signExtensionIsTwosComplement : Obligations.SignExtensionIsTwosComplement := by
  intro w u hu
  have hW : 0 < 8 * widthBytes w := by cases w <;> decide
  obtain ⟨hlow, hhigh⟩ := sext_mem_range hW hu
  exact ⟨hlow, hhigh, Int.emod_eq_emod_iff_emod_sub_eq_zero.mp sext_modEq, toInt_sext64 hW (widthBytes_le w) hu⟩

/-- Nine over 1280 is 360 over 51200 (45_resp_decoder.md R175). -/
theorem degNum_div_degDen (ticks : Int) : (degNum ticks : ℚ) / (degDen : ℚ) = (ticks : ℚ) * 360 / 51200 := by
  simp only [degNum, degDen]
  push_cast
  ring

/-- Nine times a number of 48 bits has at most 52 bits. -/
theorem toInt_ofInt_degNum {ticks : Int} (hlow : -2 ^ 47 ≤ ticks) (hhigh : ticks < 2 ^ 47) :
    (BitVec.ofInt 64 (degNum ticks)).toInt = degNum ticks := by
  refine BitVec.toInt_ofInt_eq_self (by decide) ?_ ?_ <;> simp only [degNum] <;> omega

/-- Settles O40; 512 ticks are one hundredth of a turn. -/
theorem degreesAreExact : Obligations.DegreesAreExact := by
  refine ⟨degNum_div_degDen, fun _ => toInt_ofInt_degNum, ?_⟩
  rw [degNum_div_degDen]
  norm_num

end Sys2Proof.Proofs

/-! The lanes of RX as one number, most significant first (20_memory.md R41), and the value each response row delivers
(46_resp_layouts.md R200 to R234). -/

namespace Sys2Proof.Proofs

open Sys2Proof.Machine Sys2Proof.Laws

/-! A field of the frame in RX is the pattern its lanes make side by side. -/

section

variable {s : State} {k : Nat}

theorem ube_readLanes_one : ube (readLanes s.rx.mem k 1) = (rxLane s k).toNat := by
  simp [readLanes, ube, rxLane]

theorem readLanes_succ (m : Memory) (k n : Nat) : readLanes m k (n + 1) = readLanes m k n ++ [readLane m (k + n)] := by
  simp [readLanes, List.range_succ]

/-- One lane more stands below the pattern of the lanes before it. -/
theorem ube_readLanes_succ {n w : Nat} {x : BitVec w} (h : ube (readLanes s.rx.mem k n) = x.toNat) :
    ube (readLanes s.rx.mem k (n + 1)) = (x ++ rxLane s (k + n)).toNat := by
  rw [readLanes_succ, ube_snoc, h, BitVec.toNat_append, ← Nat.shiftLeft_add_eq_or_of_lt (rxLane s (k + n)).isLt,
    Nat.shiftLeft_eq, rxLane]

theorem ube_readLanes_two : ube (readLanes s.rx.mem k 2) = (rxLane s k ++ rxLane s (k + 1)).toNat :=
  ube_readLanes_succ ube_readLanes_one

theorem ube_readLanes_four : ube (readLanes s.rx.mem k 4) =
    (rxLane s k ++ rxLane s (k + 1) ++ rxLane s (k + 2) ++ rxLane s (k + 3)).toNat :=
  ube_readLanes_succ (ube_readLanes_succ ube_readLanes_two)

theorem ube_readLanes_six : ube (readLanes s.rx.mem k 6) =
    (rxLane s k ++ rxLane s (k + 1) ++ rxLane s (k + 2) ++ rxLane s (k + 3) ++ rxLane s (k + 4) ++
      rxLane s (k + 5)).toNat :=
  ube_readLanes_succ (ube_readLanes_succ ube_readLanes_four)

/-! The branches that read a number, from every state. -/

variable {code : Byte}

/-- A signed field is the two's-complement reading of its lanes (45_resp_decoder.md R174). -/
theorem branchSigned_eq_afterParse {width : SignedWidth} {x : BitVec (8 * widthBytes width)}
    (h : ube (readLanes s.rx.mem 1 (widthBytes width)) = x.toNat) :
    branchSigned code width s = .next (afterParse s (widthBytes width + 2) (.signed code width x.toInt)) := by
  rw [← sext_toNat (by cases width <;> decide) x, ← h]
  exact branch_eq_afterParse branchSigned_long

/-- The carry is signed, the value is not (45_resp_decoder.md R184). -/
theorem branchEncCarry_eq_afterParse {carry : BitVec 32} {value : BitVec 16}
    (hcarry : ube (readLanes s.rx.mem 1 4) = carry.toNat) (hvalue : ube (readLanes s.rx.mem 5 2) = value.toNat) :
    branchEncCarry code s = .next (afterParse s 8 (.encCarry code carry.toInt value)) := by
  obtain rfl : BitVec.ofNat 16 (ube (readLanes s.rx.mem 5 2)) = value := by
    rw [hvalue, BitVec.ofNat_toNat, BitVec.setWidth_eq]
  rw [← sext_toNat (by decide) carry, ← hcarry]
  exact branch_eq_afterParse branchEncCarry_long

/-- The ticks are signed, of the width the run is configured with, and the degrees are their multiple
(45_resp_decoder.md R175). -/
theorem branchAngle_eq_afterParse {width : AngleWidth} (hwidth : s.cfg.angleErrBytes = width)
    {x : BitVec (8 * angleBytes width)} (h : ube (readLanes s.rx.mem 1 (angleBytes width)) = x.toNat) :
    branchAngle code s = .next (afterParse s (angleBytes width + 2) (.angleErr code x.toInt (x.toInt * 9))) := by
  subst hwidth
  rw [← sext_toNat (by cases s.cfg.angleErrBytes <;> decide) x, ← h]
  exact branch_eq_afterParse branchAngle_long

end

/-- Settles O22, by the width of each signed field. -/
theorem signedResponsesSignExtend : Obligations.SignedResponsesSignExtend := fun _ =>
  ⟨rfl, rfl, rfl, rfl, branchSigned_eq_afterParse (width := .w48) ube_readLanes_six,
    branchSigned_eq_afterParse (width := .w16) ube_readLanes_two,
    branchSigned_eq_afterParse (width := .w32) ube_readLanes_four,
    branchSigned_eq_afterParse (width := .w48) ube_readLanes_six⟩

/-- Settles O23, by the configured width. -/
theorem angleErrorDeliversTicksAndDegrees : Obligations.AngleErrorDeliversTicksAndDegrees := by
  intro s
  refine ⟨rfl, ?_⟩
  cases hwidth : s.cfg.angleErrBytes with
  | four => exact branchAngle_eq_afterParse hwidth ube_readLanes_four
  | six => exact branchAngle_eq_afterParse hwidth ube_readLanes_six

/-- Settles O21: four lanes, then two. -/
theorem carryResponseDeliversBothFields : Obligations.CarryResponseDeliversBothFields := fun _ =>
  ⟨rfl, branchEncCarry_eq_afterParse ube_readLanes_four ube_readLanes_two⟩

/-! The name lists, index by index (45_resp_decoder.md R176), and the branches that read one byte. -/

theorem statusName_nil (i : Byte) : statusName [] i = .unknown := rfl

/-- Index 0 names the head of the list, every other index one of the tail. -/
theorem statusName_cons (a : StatusWord) (l : List StatusWord) (i : Byte) :
    statusName (a :: l) i = if i = 0 then .named a else statusName l (i - 1) := by
  split
  case isTrue h =>
    subst h
    rfl
  case isFalse h =>
    have hsucc : i.toNat = (i - 1).toNat + 1 := by bv_omega
    rw [statusName, hsucc, List.getElem?_cons_succ, statusName]

section

variable {a b c d : StatusWord}

theorem statusName_two : statusName [a, b] = nameOfTwo a b := by
  funext i
  simp only [statusName_cons, statusName_nil, sub_eq_zero]
  rfl

theorem statusName_three : statusName [a, b, c] = nameOfThree a b c := by
  funext i
  simp only [statusName_cons, statusName_nil, sub_sub, sub_eq_zero]
  rfl

theorem statusName_four : statusName [a, b, c, d] = nameOfFour a b c d := by
  funext i
  simp only [statusName_cons, statusName_nil, sub_sub, sub_eq_zero]
  rfl

end

/-- The row of a code with a name list delivers the index of lane 1 with its name there, from every state. -/
theorem exec_statusRow {i : Instr} {s : State} {code : Byte} {names : List StatusWord} {name : Byte → StatusName}
    (hi : dispatch code = i) (hnames : namesOf code = some names) (hname : statusName names = name) :
    exec i s = .next (afterStatus s code name) := by
  subst hi hname
  exact (exec_dispatch_of_namesOf hnames s).trans (branch_eq_afterParse branchStatus_long)

/-- Settles O24: one branch delivers the byte, two look it up. -/
theorem statusReadAnswersDeliverOneByte : Obligations.StatusReadAnswersDeliverOneByte := fun _ =>
  ⟨rfl, rfl, rfl, branch_eq_afterParse branchByte_long, exec_statusRow rfl rfl statusName_two,
    exec_statusRow rfl rfl statusName_two⟩

/-- An acknowledgement is `Fail`, `Success` or `Unknown` (45_resp_decoder.md R176). -/
theorem exec_ackRow {i : Instr} {s : State} {code : Byte} (hi : dispatch code = i)
    (hnames : namesOf code = some nlAck) : exec i s = .next (afterStatus s code (nameOfTwo .fail .success)) :=
  exec_statusRow hi hnames statusName_two

/-- Settles O25: seven acknowledgements. -/
theorem configurationAcknowledgementsFirstHalf : Obligations.ConfigurationAcknowledgementsFirstHalf := fun _ =>
  ⟨rfl, rfl, rfl, rfl, rfl, rfl, rfl, exec_ackRow rfl rfl, exec_ackRow rfl rfl, exec_ackRow rfl rfl,
    exec_ackRow rfl rfl, exec_ackRow rfl rfl, exec_ackRow rfl rfl, exec_ackRow rfl rfl⟩

/-- Settles O26: seven acknowledgements. -/
theorem configurationAcknowledgementsSecondHalf : Obligations.ConfigurationAcknowledgementsSecondHalf := fun _ =>
  ⟨rfl, rfl, rfl, rfl, rfl, rfl, rfl, exec_ackRow rfl rfl, exec_ackRow rfl rfl, exec_ackRow rfl rfl,
    exec_ackRow rfl rfl, exec_ackRow rfl rfl, exec_ackRow rfl rfl, exec_ackRow rfl rfl⟩

/-- Settles O27: homing has a third name, the others acknowledge. -/
theorem homingAndZeroAnswers : Obligations.HomingAndZeroAnswers := fun _ =>
  ⟨rfl, rfl, rfl, rfl, exec_ackRow rfl rfl, exec_statusRow rfl rfl statusName_three, exec_ackRow rfl rfl,
    exec_ackRow rfl rfl⟩

/-- Settles O28: the speed mode has three names, the three moves have four. -/
theorem motionAnswers : Obligations.MotionAnswers := fun _ =>
  ⟨rfl, rfl, rfl, rfl, exec_statusRow rfl rfl statusName_three, exec_statusRow rfl rfl statusName_four,
    exec_statusRow rfl rfl statusName_four, exec_statusRow rfl rfl statusName_four⟩

/-- Settles O29: calibration has three names, the others acknowledge. -/
theorem maintenanceAnswers : Obligations.MaintenanceAnswers := fun _ =>
  ⟨rfl, rfl, rfl, rfl, exec_ackRow rfl rfl, exec_ackRow rfl rfl, exec_ackRow rfl rfl,
    exec_statusRow rfl rfl statusName_three⟩

end Sys2Proof.Proofs

/-! What the calls of the host do, in terms of the frame and the instruction each is about (47_transport_drain.md R242 to
R249). -/

namespace Sys2Proof.Proofs

open Sys2Proof.Machine Sys2Proof.Laws

/-- A response row hands nothing to `send`. -/
theorem frameSent_response {i : Instr} (h : encodePorts i = none) : frameSent i = none := by
  obtain ⟨r, hr⟩ := exec_response h openedReset
  rw [frameSent, hr]
  rfl

/-- A command that answers a next state was passed an open Transport, and has sent the frame of its row
(47_transport_drain.md R242, R243). -/
theorem exec_command_next {i : Instr} {p : EncPorts} {s t : State} (hp : encodePorts i = some p)
    (h : exec i s = .next t) : t = afterSend s p.id (encode i) := by
  obtain ⟨P, -, -, -, -, hx⟩ := exec_command hp
  have hopen : s.opened = true := (encodeAndSend_next ((hx s).symm.trans h)).1
  cases (everyCommandSendsItsTableFrame i p s hp hopen).symm.trans h
  rfl

/-- What an instruction adds to the frames sent: the frame of its row if it is a command, through the Transport passed. -/
theorem sent_of_exec {i : Instr} {s t : State} (h : exec i s = .next t) :
    t.sent = s.sent ++ (frameSent i).toList.map fun f => ⟨s.handle, f, s.cfg.sendTimeoutMs⟩ := by
  cases hp : encodePorts i with
  | some p =>
    obtain rfl := exec_command_next hp h
    rw [frameSent_command hp]
    rfl
  | none =>
    obtain ⟨r, hr⟩ := exec_response hp s
    cases hr.symm.trans h
    rw [frameSent_response hp]
    exact (List.append_nil _).symm

/-- Settles O16: the frames added are those of the instruction. -/
theorem equalCommandsSendEqualFrames : Obligations.EqualCommandsSendEqualFrames :=
  fun i _ _ _ _ h h' => ⟨(frameSent i).toList, sent_of_exec h, sent_of_exec h'⟩

/-! The value of a received frame depends on the frame and the configuration only (45_resp_decoder.md R170). -/

/-- Some value is the value of the frame in every state of a configuration: by the length and the code, as an empty
frame, an unrecognised code, or the fields of the code's row. -/
theorem decodeRx_takeFrame_uniform (cfg : Config) (f : Frame) :
    ∃ r, ∀ s : State, s.cfg = cfg → decodeRx (takeFrame f s) = .next { takeFrame f s with pr := r } := by
  by_cases hempty : f.len.val = 0
  · exact ⟨.skipped, fun s _ => decodeRx_takeFrame_empty s hempty⟩
  have hpos : 1 ≤ f.len.val := Nat.one_le_iff_ne_zero.mpr hempty
  cases hleast : minLenOf cfg.angleErrBytes f.data.d0 with
  | none =>
    exact ⟨.rawDump (frameBytes f), fun s _ =>
      decodeRx_takeFrame_unrecognised s hpos (minLenOf_eq_none_iff.mp hleast)⟩
  | some least =>
    obtain ⟨n, value, -, hrow⟩ := readsFields_of_minLenOf hleast
    refine ⟨if f.len.val < n + 2 then .skipped else value (readLanes (bufferOf f).mem 1 n), ?_⟩
    rintro s rfl
    exact decodeRx_of_readsFields hrow hpos

/-- Every frame has a value, which the decoder delivers from every state of that configuration. -/
theorem decodedValue_exists (s : State) (f : Frame) :
    ∃ r, decodedValue s.cfg f = some r ∧ decodeRx (takeFrame f s) = .next { takeFrame f s with pr := r } := by
  obtain ⟨r, hr⟩ := decodeRx_takeFrame_uniform s.cfg f
  exact ⟨r, decodedValue_of_decodeRx (hr _ rfl), hr s rfl⟩

theorem decodeRx_of_decodedValue {s : State} {f : Frame} {r : ParsedResponse} (h : decodedValue s.cfg f = some r) :
    decodeRx (takeFrame f s) = .next { takeFrame f s with pr := r } := by
  obtain ⟨r', hv, hd⟩ := decodedValue_exists s f
  cases hv.symm.trans h
  exact hd

/-! A step, by the call it performs. -/

section

variable {s : State} {rest : List Call}

/-- An encode-and-send runs the command its ports select (47_transport_drain.md R243). -/
theorem step_encodeAndSend {T : Handle} {p : EncPorts} {i : Instr} (hc : s.calls = .encodeAndSend T p :: rest)
    (hi : decodeCommand p = .ok i) : step s = exec i { s with calls := rest, handle := T } := by
  rw [step_cons hc, perform, performEncodeAndSend, hi]

/-- A decode runs the decoder on the frame of its ports (47_transport_drain.md R248). -/
theorem step_decode {p : RxPorts} {f : Frame} (hc : s.calls = .decode p :: rest) (hf : portFrame p = some f) :
    step s = mapNext (decodeRx (takeFrame f { s with calls := rest })) returnParsed := by
  rw [step_cons hc, perform, performDecode, hf]

/-- An encode of the ports of a command returns the frame of its row (47_transport_drain.md R248). -/
theorem step_encode {i : Instr} {p : EncPorts} (hc : s.calls = .encode p :: rest) (hp : encodePorts i = some p) :
    step s = .next { s with calls := rest, returned := s.returned ++ [.frame (frameOf p.id (encode i))] } := by
  obtain ⟨P, hraw, -, hlen, hseal, -⟩ := exec_command hp
  obtain ⟨b, hb, -, hframe⟩ := formFrame_ok p.id hlen
  have hpayload : (decodeCommand p).toOption.bind rawPayload = some (p.id, P) := by
    rw [decodeCommand_encodePorts hp]
    exact hraw
  rw [step_cons hc, perform, performEncode, hpayload]
  simp only [hb]
  rw [hframe, hseal]

variable {T : Handle} {sink : Sink}

/-- A drain whose Transport delivers a frame decodes and reports it, and is the next call still
(47_transport_drain.md R246). -/
theorem step_drain_frame {f : Frame} (hc : s.calls = .drain T sink :: rest) (ho : (transportOf s T).opened = true)
    (hr : receiveAnswer T s = some f) :
    step s = mapNext (decodeRx (takeFrame f (pollTransport T s))) (reportParsed sink) := by
  have ho' : (transportOf { s with calls := rest } T).opened = true := ho
  have hr' : receiveAnswer T { s with calls := rest } = some f := hr
  have hkept : { pollTransport T { s with calls := rest } with calls := .drain T sink :: rest } =
      pollTransport T s := by
    rw [← hc]
    rfl
  rw [step_cons hc, perform, performDrain, if_pos ho', hr']
  exact congrArg (fun u => mapNext (decodeRx (takeFrame f u)) (reportParsed sink)) hkept

/-- A drain whose Transport answers `false` returns (47_transport_drain.md R246). -/
theorem step_drain_end (hc : s.calls = .drain T sink :: rest) (ho : (transportOf s T).opened = true)
    (hr : receiveAnswer T s = none) :
    step s = .next { pollTransport T s with calls := rest, returned := s.returned ++ [.drained] } := by
  have ho' : (transportOf { s with calls := rest } T).opened = true := ho
  have hr' : receiveAnswer T { s with calls := rest } = none := hr
  rw [step_cons hc, perform, performDrain, if_pos ho', hr']
  rfl

end

/-- Settles O49: a frame of at least one byte is decoded by the row of its lane 0. -/
theorem stepRunsTheDecodedInstruction : Obligations.StepRunsTheDecodedInstruction := by
  refine fun s rest => ⟨fun T p i => step_encodeAndSend, fun p f hc hf hlen => ?_, fun T sink f hc ho hr hlen => ?_⟩
  · rw [step_decode hc hf, decodeRx_takeFrame _ hlen]
  · rw [step_drain_frame hc ho hr, decodeRx_takeFrame _ hlen]

/-- From a state where `CORE` holds nothing a frame decoded and returned leaves nothing but the value returned
(10_state.md R29). -/
theorem returnParsed_of_idle {s : State} (hs : Idle s) (f : Frame) (r : ParsedResponse) :
    returnParsed { takeFrame f s with pr := r } = { s with returned := s.returned ++ [.parsed r] } := by
  obtain ⟨-, hrx, hpr, -⟩ := hs
  rw [returnParsed, ← hrx, ← hpr]
  rfl

/-- Settles O55, one call for each clause. -/
theorem hostOperationsReturnTheirResult : Obligations.HostOperationsReturnTheirResult := by
  refine fun s rest => ⟨fun T => rfl, fun id bytes => rfl, fun i p => step_encode rfl, fun f p r hf hv hs => ?_⟩
  have hs' : Idle { s with calls := rest } := hs
  have hv' : decodedValue { s with calls := rest }.cfg f = some r := hv
  rw [step_decode rfl hf, decodeRx_of_decodedValue hv', mapNext, returnParsed_of_idle hs']

/-! A whole drain, frame by frame (47_transport_drain.md R246, R249). -/

/-- The sink receives the value of a frame, but nothing for `Skipped`. -/
theorem reportsOf_singleton {cfg : Config} {f : Frame} {r : ParsedResponse} (h : decodedValue cfg f = some r) :
    reportsOf cfg [f] = if r = .skipped then [] else [r] := by
  by_cases hr : r = .skipped <;> simp [reportsOf, h, hr]

/-- The reports of the first frame stand before those of the others. -/
theorem reportsOf_cons (cfg : Config) (f : Frame) (fs : List Frame) :
    reportsOf cfg (f :: fs) = reportsOf cfg [f] ++ reportsOf cfg fs := by
  rw [reportsOf, reportsOf, reportsOf, ← List.filter_append, ← List.filterMap_append, List.singleton_append]

/-- From a state where `CORE` holds nothing a frame decoded and reported leaves nothing but its report
(10_state.md R29). -/
theorem reportParsed_of_idle {s : State} (hs : Idle s) (sink : Sink) {f : Frame} {r : ParsedResponse}
    (hv : decodedValue s.cfg f = some r) :
    reportParsed sink { takeFrame f s with pr := r } =
      { s with reports := s.reports ++ (reportsOf s.cfg [f]).map (Report.mk sink) } := by
  obtain ⟨-, hrx, hpr, -⟩ := hs
  have hreports : (if r = .skipped then s.reports else s.reports ++ [⟨sink, r⟩]) =
      s.reports ++ (reportsOf s.cfg [f]).map (Report.mk sink) := by
    rw [reportsOf_singleton hv]
    split <;> simp
  rw [← hreports, reportParsed, ← hrx, ← hpr]
  rfl

/-- The state after one frame of a drain: one `receive` more, the value of the frame reported, and `later` the answers
the Transport has left. -/
def afterDrainedFrame (T : Handle) (sink : Sink) (f : Frame) (later : List (Option Frame)) (s : State) : State :=
  { s with
    transports := setTransport s.transports T { transportOf s T with deliveries := later }
    oracleIndex := s.oracleIndex + 1
    polled := s.polled ++ [⟨T, s.cfg.recvTimeoutMs⟩]
    reports := s.reports ++ (reportsOf s.cfg [f]).map (Report.mk sink) }

@[simp] theorem transportOf_afterDrainedFrame (T : Handle) (sink : Sink) (f : Frame) (later : List (Option Frame))
    (s : State) :
    transportOf (afterDrainedFrame T sink f later s) T = { transportOf s T with deliveries := later } :=
  transportAt_setTransport_self _ _ _

section

variable {s : State} {T : Handle} {sink : Sink} {rest : List Call} {later : List (Option Frame)}

theorem receiveAnswer_cons {a : Option Frame} (h : (transportOf s T).deliveries = a :: later) :
    receiveAnswer T s = a := by rw [receiveAnswer, h, List.headD_cons]

/-- A `receive` takes the first of the listed answers. -/
theorem pollTransport_cons {a : Option Frame} (h : (transportOf s T).deliveries = a :: later) :
    pollTransport T s = { s with
      transports := setTransport s.transports T { transportOf s T with deliveries := later }
      oracleIndex := s.oracleIndex + 1
      polled := s.polled ++ [⟨T, s.cfg.recvTimeoutMs⟩] } := by
  rw [pollTransport, afterReceiveAnswer, h, List.tail_cons]

/-- A step of a drain that takes one frame. -/
theorem step_drain_deliver {f : Frame} (hs : Idle s) (ho : (transportOf s T).opened = true)
    (hc : s.calls = .drain T sink :: rest) (hd : (transportOf s T).deliveries = some f :: later) :
    step s = .next (afterDrainedFrame T sink f later s) := by
  obtain ⟨r, hv, hdecode⟩ := decodedValue_exists (pollTransport T s) f
  have hidle : Idle (pollTransport T s) := hs
  rw [step_drain_frame hc ho (receiveAnswer_cons hd), hdecode, mapNext, reportParsed_of_idle hidle sink hv,
    pollTransport_cons hd, afterDrainedFrame]

/-- The last step of a drain, which takes the `false` and returns. -/
theorem step_drain_false (ho : (transportOf s T).opened = true) (hc : s.calls = .drain T sink :: rest)
    (hd : (transportOf s T).deliveries = none :: later) :
    step s = .next { s with
      calls := rest
      transports := setTransport s.transports T { transportOf s T with deliveries := later }
      oracleIndex := s.oracleIndex + 1
      polled := s.polled ++ [⟨T, s.cfg.recvTimeoutMs⟩]
      returned := s.returned ++ [.drained] } := by
  rw [step_drain_end hc ho (receiveAnswer_cons hd), pollTransport_cons hd]

end

/-- Settles O54, by induction on the frames delivered: one step takes the first of them, and the last step the
`false`. -/
theorem drainReportsEveryFrameInOrder : Obligations.DrainReportsEveryFrameInOrder := by
  intro fs
  induction fs with
  | nil =>
    intro s T sink rest later hs ho hc hd
    rw [run_succ (step_drain_false ho hc hd)]
    simp [Host.Core.run, reportsOf]
  | cons f fs ih =>
    intro s T sink rest later hs ho hc hd
    have hrun := ih (afterDrainedFrame T sink f (fs.map some ++ none :: later) s) T sink rest later hs (by simpa) hc
      (by simp)
    refine (run_succ (step_drain_deliver hs ho hc hd)).trans (hrun.trans ?_)
    rw [transportOf_afterDrainedFrame]
    simp [afterDrainedFrame, reportsOf_cons s.cfg f fs, List.replicate_succ, Nat.add_assoc, Nat.add_comm 1]

end Sys2Proof.Proofs

/-! No instruction faults (60_exceptions.md R260, R267). -/

namespace Sys2Proof.Proofs

open Sys2Proof.Machine Sys2Proof.Laws

/-- A raw payload with room for its checksum is sent or refused (40_checksum.md R92, 47_transport_drain.md R242). -/
theorem encodeAndSend_isFault (id : Ident) {P : List Byte} (h : P.length ≤ 7) (s : State) :
    isFault (encodeAndSend id P s) = false := by
  cases ho : s.opened with
  | true => rw [encodeAndSend_open id h ho, isFault]
  | false => rw [encodeAndSend_closed id P ho, isFault]

/-- Settles O34: a command's raw payload has at most 7 bytes, and a response row answers a next state. -/
theorem noInstructionFaults : Obligations.NoInstructionFaults := by
  intro i s
  cases hp : encodePorts i with
  | some p =>
    obtain ⟨P, -, -, hlen, -, hx⟩ := exec_command hp
    rw [hx]
    exact encodeAndSend_isFault p.id hlen s
  | none =>
    obtain ⟨r, hr⟩ := exec_response hp s
    rw [hr, isFault]

end Sys2Proof.Proofs

/-! The outcomes of a decode, in the order they are decided (60_exceptions.md R262 to R264, R266), and what a value does
not depend on (70_reset_and_hazards.md R302). -/

namespace Sys2Proof.Proofs

open Sys2Proof.Machine Sys2Proof.Laws

theorem mem_responseCodes_of_minLenOf {w : AngleWidth} {code : Byte} {least : Nat} (h : minLenOf w code = some least) :
    code ∈ responseCodes := by
  by_contra hnot
  cases (minLenOf_eq_none_iff.mpr hnot).symm.trans h

/-- The row of a recognised code without a name list delivers a value that shows no abnormal outcome, and skips a frame
below the code's minimum length: the seven codes in their order (46_resp_layouts.md R200 to R206). -/
theorem exec_dispatch_of_namesOf_eq_none {s : State} {code : Byte} {least : Nat} (hnames : namesOf code = none)
    (hleast : minLenOf s.cfg.angleErrBytes code = some least) :
    ∃ r, exec (dispatch code) s = .next (afterParse s least r) ∧ abnormalParse r = none := by
  obtain ⟨-, h30⟩ := carryResponseDeliversBothFields s
  obtain ⟨-, -, -, -, h31, h32, h33, h35⟩ := signedResponsesSignExtend s
  obtain ⟨-, -, -, h34, -⟩ := statusReadAnswersDeliverOneByte s
  obtain ⟨-, h39⟩ := angleErrorDeliversTicksAndDegrees s
  have hread := mem_readCodes_of_namesOf_eq_none (mem_responseCodes_of_minLenOf hleast) hnames
  fin_cases hread <;> cases hleast
  · exact ⟨_, h30, rfl⟩
  · exact ⟨_, h31, rfl⟩
  · exact ⟨_, h32, rfl⟩
  · exact ⟨_, h33, rfl⟩
  · exact ⟨_, h34, rfl⟩
  · exact ⟨_, h35, rfl⟩
  · exact ⟨_, h39, rfl⟩

/-- A long enough frame of a code without a name list has a value that shows no abnormal outcome. -/
theorem decodedValue_of_namesOf_eq_none {cfg : Config} {f : Frame} {least : Nat} (hpos : 1 ≤ f.len.val)
    (hnames : namesOf f.data.d0 = none) (hleast : minLenOf cfg.angleErrBytes f.data.d0 = some least)
    (hlong : least ≤ f.len.val) : ∃ r, decodedValue cfg f = some r ∧ abnormalParse r = none := by
  obtain ⟨r, hx, hr⟩ :=
    exec_dispatch_of_namesOf_eq_none (s := takeFrame f { State.reset with cfg := cfg }) hnames hleast
  refine ⟨r, decodedValue_of_decodeRx ?_, hr⟩
  rw [decodeRx_takeFrame _ hpos, hx, afterParse_of_le r hlong]

/-- A long enough frame of a code with a name list shows `E_D` exactly when its index is not in the list
(60_exceptions.md R264). -/
theorem decodedValue_of_namesOf {cfg : Config} {f : Frame} {names : List StatusWord} (hlong : 3 ≤ f.len.val)
    (hnames : namesOf f.data.d0 = some names) :
    ∃ r, decodedValue cfg f = some r ∧
      abnormalParse r = if f.data.d1.toNat < names.length then none else some .eD := by
  obtain ⟨name, hd, hin, hout⟩ := statusLookupNeverLeavesTheList { State.reset with cfg := cfg } f names hlong hnames
  refine ⟨_, decodedValue_of_decodeRx hd, ?_⟩
  split
  case isTrue h => rw [hin h, abnormalParse]
  case isFalse h => rw [hout (Nat.le_of_not_lt h), abnormalParse]

/-- Settles O38, by the tests in their order: the length, the code, its minimum length, its name list. -/
theorem decodeOutcomesAreDecidedInOrder : Obligations.DecodeOutcomesAreDecidedInOrder := by
  intro cfg f
  split
  case isTrue hempty => exact ⟨_, decodedValue_empty hempty, rfl⟩
  case isFalse hne =>
    have hpos : 1 ≤ f.len.val := Nat.one_le_iff_ne_zero.mpr hne
    cases hleast : minLenOf cfg.angleErrBytes f.data.d0 with
    | none => exact ⟨_, decodedValue_unrecognised hpos (minLenOf_eq_none_iff.mp hleast), rfl⟩
    | some least =>
      dsimp only
      split
      case isTrue hshort => exact ⟨_, decodedValue_short hpos hleast hshort, rfl⟩
      case isFalse hlong =>
        cases hnames : namesOf f.data.d0 with
        | none => exact decodedValue_of_namesOf_eq_none hpos hnames hleast (Nat.le_of_not_lt hlong)
        | some names =>
          obtain rfl : 3 = least := Option.some.inj ((minLenOf_of_namesOf hnames).symm.trans hleast)
          exact decodedValue_of_namesOf (Nat.le_of_not_lt hlong) hnames

/-- Settles O35: one value serves every state of the configuration. -/
theorem decoderSeesTheFrameOnly : Obligations.DecoderSeesTheFrameOnly := by
  intro s s' f hcfg
  obtain ⟨r, hr⟩ := decodeRx_takeFrame_uniform s'.cfg f
  exact ⟨r, hr s hcfg, hr s' rfl⟩

end Sys2Proof.Proofs

/-! What a packed direction-and-speed pair keeps of its operands (30_encoding.md R69, 70_reset_and_hazards.md R304). -/

namespace Sys2Proof.Proofs

open Sys2Proof.Machine Sys2Proof.Laws

theorem low12_eq_iff {v v' : BitVec 16} : low12 v = low12 v' ↔ v.extractLsb' 0 12 = v'.extractLsb' 0 12 := by
  rw [low12_eq_setWidth, low12_eq_setWidth, ← BitVec.setWidth_eq_extractLsb' (by decide),
    ← BitVec.setWidth_eq_extractLsb' (by decide)]
  refine ⟨fun h => ?_, congrArg _⟩
  simpa using congrArg (BitVec.setWidth 12) h

/-- Packed pairs are equal exactly when their directions and the low 12 bits of their speeds are. -/
theorem packedPair_eq_iff {d d' : BitVec 1} {v v' : BitVec 16} :
    pk d v = pk d' v' ∧ byteAt v 0 = byteAt v' 0 ↔ d = d' ∧ v.extractLsb' 0 12 = v'.extractLsb' 0 12 := by
  rw [← low12_eq_iff]
  constructor
  · rintro ⟨hpk, hlow⟩
    have hread : some (d, low12 v) = some (d', low12 v') := by rw [← unpack_pk, hpk, hlow, unpack_pk]
    exact Prod.mk.inj (Option.some.inj hread)
  · rintro ⟨rfl, hv⟩
    rw [← pk_low12, ← byteAt_low12, hv, pk_low12, byteAt_low12]
    exact ⟨rfl, rfl⟩

/-- Settles O14: payloads are equal exactly when the packed pairs, the accelerations and the bytes of the magnitudes
are. -/
theorem packedSpeedLosesExactlyItsUpperFourBits : Obligations.PackedSpeedLosesExactlyItsUpperFourBits := by
  intro id id' dir dir' v v' acc acc' m m'
  constructor <;> rw [frameSent_eq_iff rfl rfl rfl rfl, ← and_assoc (a := dir = dir'), ← packedPair_eq_iff] <;>
    simp only [List.cons.injEq, true_and, and_true, ← byteAt_triple_eq_iff, ← pk_eq, and_assoc]

end Sys2Proof.Proofs

/-! What every frame handed to `send` satisfies (70_reset_and_hazards.md R300, R303, 40_checksum.md R95). -/

namespace Sys2Proof.Proofs

open Sys2Proof.Machine Sys2Proof.Laws

/-- A frame formed by the append rule carries its checksum (40_checksum.md R92, R95). -/
theorem cksumOk_frameOf_sealed (id : Ident) {P : List Byte} (hpos : 1 ≤ P.length) (hlen : P.length ≤ 7) :
    cksumOk (frameOf id (P ++ [cksum id P])) = true := by
  have hfits : (P ++ [cksum id P]).length ≤ 8 := by
    rw [List.length_append, List.length_singleton]
    omega
  rw [cksumOk, frameOf_len id hfits, frameBytes_frameOf id hfits]
  simpa [frameOf] using hpos

/-- Settles O17: a command sends the frame of its row, a payload of 1 to 7 bytes sealed; a response row changes only the
value. -/
theorem everyFrameSentIsSealedAndFits : Obligations.EveryFrameSentIsSealedAndFits := by
  intro i s t h
  cases hp : encodePorts i with
  | none =>
    obtain ⟨r, hr⟩ := exec_response hp s
    cases hr.symm.trans h
    exact .inl ⟨rfl, rfl⟩
  | some p =>
    obtain ⟨P, -, hpos, hlen, hseal, -⟩ := exec_command hp
    have hlength : (encode i).length = P.length + 1 := by rw [hseal, List.length_append, List.length_singleton]
    have hfits : (encode i).length ≤ 8 := by omega
    obtain rfl := exec_command_next hp h
    refine .inr ⟨frameOf p.id (encode i), p, rfl, rfl, rfl, ?_⟩
    rw [frameOf_len p.id hfits]
    refine ⟨by omega, hfits, hseal ▸ cksumOk_frameOf_sealed p.id hpos hlen, fun k hk => ?_⟩
    rw [laneList_frameOf_getD p.id hfits, List.getD_eq_default _ _ hk]

end Sys2Proof.Proofs

/-! The state after reset (70_reset_and_hazards.md R290). -/

namespace Sys2Proof.Proofs

open Sys2Proof.Machine Sys2Proof.Laws

theorem reset_idle : Idle State.reset := ⟨rfl, rfl, rfl, rfl⟩

/-- Both buffers and the list of Transports are empty. -/
theorem reset_canonical : Canonical State.reset := ⟨wf_nil, wf_nil, rfl⟩

/-- Settles O52, from the values of the fields at reset. -/
theorem resetHoldsNothing : Obligations.ResetHoldsNothing := ⟨reset_idle, reset_canonical, rfl⟩

end Sys2Proof.Proofs
